-- ==== Sys2Proof/Word.lean ====
section
/-! DEFINITION. The bit patterns of the NestedPRNG core: the generator register, the command word, the two kinds of
bus, the response fields. Widths are those of the parameter table R7 (00_scope.md); bit 0 is the least significant
bit of every one of them (R10). The two kinds of bus have other widths in another realisation (Config.lean). -/

namespace Sys2Proof

/-- STATE and every raw word: P_STATE_W = 64 bits (R7, R20). -/
abbrev GenWord := BitVec 64

/-- The command word CMD: P_CMD_W = 32 bits (R60, R61). -/
abbrev CmdWord := BitVec 32

/-- One operand bus, OPA or OPB: P_OPBUS_W = 576 bits (R33, R66). -/
abbrev OperandBus := BitVec 576

/-- COEF = RES[4607:0]: P_RES_COEF_W = 4608 bits (R70). -/
abbrev Coef := BitVec 4608

/-- EXP = RES[4623:4608]: P_RES_EXP_W = 16 bits (R70). -/
abbrev ExpWord := BitVec 16

/-- STATUS: P_STATUS_W = 4 bits (R201). -/
abbrev StatusCode := BitVec 4

end Sys2Proof
end

