-- ==== Sys2Proof/Config.lean ====
section
/-! DEFINITION. What is fixed for one realisation of the block: the LCG constants (R8, R25), the defaults (R7), and the
widths the spec leaves open to another realisation (D9, D10, R159) as ONE record with its validity condition. The
spec leaves no value free, so there is no free value here. -/

namespace Sys2Proof.Config

/-- LCG_A, the multiplier (R8, R25). -/
def lcgA : Nat := 6364136223846793005

/-- LCG_C, the increment (R8, R25). -/
def lcgC : Nat := 1442695040888963407

/-- P_DEFAULT_SEED: the seed of construction without an argument, and the reset value of STATE (R7, R240). -/
def defaultSeed : Nat := 123456789

/-- P_DEFAULT_LAYERS: the layer count the assembler fills in (R7, R87). -/
def defaultLayers : Nat := 8

/-- P_DEFAULT_BLOCKS: the block count the assembler fills in (R7, R87). -/
def defaultBlocks : Nat := 4

/-- The widths D9 and D10 leave open to a realisation, and those of the buses that follow them (R159). R7: "A model takes
each OPEN-able parameter (D9, D10) as an argument and may use the listed value as its default." -/
structure Params where
  /-- P_BIG_W: signed width of RBIG's bounds and result (D9). -/
  bigW     : Nat := 512
  /-- P_DEC_COEF_W: signed width of a decimal operand's coefficient (D10). -/
  decCoefW : Nat := 512
  /-- P_DEC_EXP_W: signed width of a decimal operand's exponent (D10). -/
  decExpW  : Nat := 8
  /-- P_OPBUS_W: width of each operand bus, wide enough for the widest operand (D5; log entry 3). -/
  opW      : Nat := 576
  /-- P_RES_COEF_W: signed width of COEF (D6, D10, R159). -/
  resCoefW : Nat := 4608
  /-- P_RES_EXP_W: signed width of EXP (D6, D10, R159). -/
  resExpW  : Nat := 16
deriving DecidableEq, Repr

/-- The values R7 lists; `exec` and `step` are the realisation with these (`execWith` and `stepWith` take any). -/
abbrev Params.listed : Params := {}

/-- The values a realisation may choose: P_BIG_W is "any value ≥ 64" (D9), the two inequalities of R159 hold, every
operand lies on its bus, and RBIG's result fits COEF.
Mark: DEDUCED (the bounds by opW and resCoefW); see log entry 3. -/
abbrev Params.Valid (p : Params) : Prop :=
  64 ≤ p.bigW ∧ p.bigW ≤ p.opW ∧ p.bigW ≤ p.resCoefW ∧ 1 ≤ p.decCoefW ∧ 1 ≤ p.decExpW ∧
    p.decCoefW + p.decExpW ≤ p.opW ∧
    2 ^ (p.decCoefW - 1) * 10 ^ (2 ^ p.decExpW - 1 + 64 * 15) < 2 ^ (p.resCoefW - 1) ∧
    2 ^ (p.decExpW - 1) + 64 * 15 < 2 ^ (p.resExpW - 1)

end Sys2Proof.Config
end

