-- ==== Sys2Proof/Syntax.lean ====
section
/-! DEFINITION. The instructions: one constructor per row of spec/opcode_table.json (R62). The layer count L and the
block count B are unsigned integers of the command word (R65), so they are Nat here and WellFormed.lean bounds them. -/

namespace Sys2Proof

/-- A decoded command. `NEW` is SEED and `PEEK` is `RAW 0` (R87): neither needs a constructor. -/
inductive Instr where
  /-- SEED: construct the generator with the seed on OPA (R105). -/
  | seed
  /-- RAW(L): one raw word after L transitions (R107). -/
  | raw (layers : Nat)
  /-- RINT(L): one word mapped into a 64-bit signed range (R122). -/
  | rint (layers : Nat)
  /-- RBIG(B, L): B words mapped into a P_BIG_W-bit signed range (R126). -/
  | rbig (blocks layers : Nat)
  /-- RFRAC(B, L): B words scaled exactly into a decimal range (R155). -/
  | rfrac (blocks layers : Nat)
deriving DecidableEq, Repr

end Sys2Proof
end

