-- ==== Sys2Proof/WellFormed.lean ====
section
/-! DEFINITION. Which terms of Instr are commands: the counts fit their fields of the command word (R61: LAYERS is 8
bits wide, BLOCKS 4). B = 0 is well-formed: RBIG and RFRAC "decode for every BLOCKS value, including 0" (R63). -/

namespace Sys2Proof

/-- P_LAYER_FIELD_W = 8: L is in 0 to 255 (R65). -/
def layersFit (layers : Nat) : Bool := decide (layers < 256)

/-- P_BLOCK_FIELD_W = 4: B is in 0 to 15 (R65). -/
def blocksFit (blocks : Nat) : Bool := decide (blocks < 16)

/-- Every count of the instruction fits its field. -/
def Instr.wellFormed : Instr → Bool
  | .seed => true
  | .raw l => layersFit l
  | .rint l => layersFit l
  | .rbig b l => blocksFit b && layersFit l
  | .rfrac b l => blocksFit b && layersFit l

end Sys2Proof
end

