-- ==== Sys2Proof/Decode.lean ====
section
/-! DEFINITION. The decoder of R63, total on all 2^32 command words and refusing by name, and after it the encoder,
written from the field table R61, the operation numbers R62 and the patterns R64. -/

namespace Sys2Proof

/-- Why a word does not decode (R73). The block reports none of this: every reason ends in ILLEGAL_CMD, which "records
nothing but its code" (R206). -/
inductive IllegalWord where
  /-- CMD[7:4] ≠ 0. -/
  | rsv0
  /-- CMD[31:20] ≠ 0. -/
  | rsv1
  /-- SEED with LAYERS ≠ 0. -/
  | layersNotUsed
  /-- SEED, RAW or RINT with BLOCKS ≠ 0. -/
  | blocksNotUsed
  /-- OP = 0 or OP = 6 to 15. -/
  | opcode
deriving DecidableEq, Repr

/-- What the decoder answers. -/
inductive Decoded where
  | legal (i : Instr)
  | illegal (why : IllegalWord)
deriving DecidableEq, Repr

/-- OP = CMD[3:0] (R61). -/
def opField (w : CmdWord) : Nat := (w.extractLsb' 0 4).toNat

/-- RSV0 = CMD[7:4] (R61). -/
def rsv0Field (w : CmdWord) : Nat := (w.extractLsb' 4 4).toNat

/-- LAYERS = CMD[15:8] (R61), unsigned, neither scaled nor offset (R65). -/
def layersField (w : CmdWord) : Nat := (w.extractLsb' 8 8).toNat

/-- BLOCKS = CMD[19:16] (R61), unsigned, neither scaled nor offset (R65). -/
def blocksField (w : CmdWord) : Nat := (w.extractLsb' 16 4).toNat

/-- RSV1 = CMD[31:20] (R61). -/
def rsv1Field (w : CmdWord) : Nat := (w.extractLsb' 20 12).toNat

/-- A command that does not use BLOCKS requires the field to be 0 (R62, R73). -/
def unlessBlocks (w : CmdWord) (d : Decoded) : Decoded :=
  if blocksField w ≠ 0 then .illegal .blocksNotUsed else d

/-- R63, check by check. -/
def decode (w : CmdWord) : Decoded :=
  if rsv0Field w ≠ 0 then .illegal .rsv0
  else if rsv1Field w ≠ 0 then .illegal .rsv1
  else if opField w = 1 then
    if layersField w ≠ 0 then .illegal .layersNotUsed else unlessBlocks w (.legal .seed)
  else if opField w = 2 then unlessBlocks w (.legal (.raw (layersField w)))
  else if opField w = 3 then unlessBlocks w (.legal (.rint (layersField w)))
  else if opField w = 4 then .legal (.rbig (blocksField w) (layersField w))
  else if opField w = 5 then .legal (.rfrac (blocksField w) (layersField w))
  else .illegal .opcode

/-- The answer as an option, the reason dropped. -/
def Decoded.instr? : Decoded → Option Instr
  | .legal i => some i
  | .illegal _ => none

/-- The instruction read from a table word: a command word is one 32-bit word (R60), so bit k of `w` is CMD[k], and the
bits above `nbits` are 0. -/
def decodeTableWord (nbits w : Nat) : Option Instr :=
  if w % 2 ^ nbits < 2 ^ 32 then (decode (BitVec.ofNat 32 (w % 2 ^ nbits))).instr? else none

/-- The pattern `RRRRRRRRRRRR BBBB LLLLLLLL rrrr OOOO` of R61 as a sum of field values at their weights (R10): OP at
bit 0, LAYERS at bit 8, BLOCKS at bit 16, reserved fields 0. -/
def packWord (op blocks layers : Nat) : CmdWord :=
  BitVec.ofNat 32 (op % 2 ^ 4 + layers % 2 ^ 8 * 2 ^ 8 + blocks % 2 ^ 4 * 2 ^ 16)

/-- The operation number of each command (R62). -/
def Instr.opNumber : Instr → Nat
  | .seed => 1
  | .raw _ => 2
  | .rint _ => 3
  | .rbig _ _ => 4
  | .rfrac _ _ => 5

/-- The command word of an instruction (R62, R64): a field the command does not use is 0. -/
def encode : Instr → CmdWord
  | .seed => packWord (Instr.opNumber .seed) 0 0
  | .raw l => packWord (Instr.opNumber (.raw l)) 0 l
  | .rint l => packWord (Instr.opNumber (.rint l)) 0 l
  | .rbig b l => packWord (Instr.opNumber (.rbig b l)) b l
  | .rfrac b l => packWord (Instr.opNumber (.rfrac b l)) b l

end Sys2Proof
end

