-- ==== Sys2Proof/Machine/State.lean ====
section
/-! DEFINITION. The machine's state as plain data, its reset, and the reasons a step can stop. The widths of the buses
are arguments of the types in `Sized` (R7, D10); `State` is the type at the listed widths. The block itself holds
ONE register, STATE (R20); the other fields hold what the block's ports carry (R33) and the host's side of the
interface (R17, R253): what the host presents next and the responses it has been given. -/

namespace Sys2Proof.Machine.Sized

open Sys2Proof

/-- One command as the host presents it: the command word and the two operand buses (R13, R33, R60). -/
structure Command (opW : Nat) where
  CMD : CmdWord
  OPA : BitVec opW
  OPB : BitVec opW
deriving DecidableEq, Repr

/-- The input ports at one step (R33). `request` says that the host presents a command: the handshake that frames
acceptance is "a realisation detail that no rule depends on" (R33). While `request` is false nothing reads
`command`. -/
structure Ports (opW : Nat) where
  /-- RESET, the reset request (R240). -/
  RESET   : Bool
  /-- A command is presented on CMD, OPA and OPB. -/
  request : Bool
  command : Command opW
deriving DecidableEq, Repr

/-- One response (R13, R19): STATUS and the two fields of the result bus (R70). -/
structure Response (coefW : Nat) (expW : Nat) where
  STATUS : StatusCode
  COEF   : BitVec coefW
  EXP    : BitVec expW
deriving DecidableEq, Repr

/-- The state a step reads and writes; opW, coefW and expW are the widths of OPA and OPB, COEF and EXP. -/
structure State (opW : Nat) (coefW : Nat) (expW : Nat) where
  /-- STATE, the one piece of persistent state (R20). -/
  STATE     : GenWord
  /-- What the host drives on the input ports now (R33). -/
  ports     : Ports opW
  /-- What the host will drive at the following steps, first first: the order of acceptance is program order (R28,
  R49). -/
  host      : List (Ports opW)
  /-- The responses delivered so far, oldest first: the run's observation (R18, R253). -/
  responses : List (Response coefW expW)
deriving DecidableEq, Repr

end Sys2Proof.Machine.Sized

namespace Sys2Proof.Machine

open Sys2Proof

/-- The state of the listed block (R7). -/
abbrev State := Sized.State 576 4608 16

/-- A command of the listed block. -/
abbrev Command := Sized.Command 576

/-- The input ports of the listed block. -/
abbrev Ports := Sized.Ports 576

/-- A response of the listed block. -/
abbrev Response := Sized.Response 4608 16

/-- The names of the status codes (R201). Their codes are `Status.code`. -/
inductive Status where
  /-- The command completed. -/
  | ok
  /-- ILLEGAL_CMD: the word does not decode (R206). -/
  | illegalCmd
  /-- INVALID_BLOCKS: B = 0 (R207). -/
  | invalidBlocks
  /-- INVALID_RANGE: high < low or max_val < min_val (R208). -/
  | invalidRange
deriving DecidableEq, Repr

/-- Reasons for a machine fault. There are none: "there are no traps, no exception vectors and no asynchronous error
signals" (R200), every error of the block is a response, and the step is a total function (R19). Nothing raises a
fault, so this is safe and unsafe in no case. -/
inductive Fault
deriving DecidableEq, Repr

/-- Reasons for a refusal. -/
inductive Refusal where
  /-- An arm of `exec` whose instruction has no meaning yet. Raised by no arm of this model. Safe. -/
  | notModelled (mnemonic : String)
deriving DecidableEq, Repr

/-- The ports with nothing driven on them: no reset, no command. The buses carry nothing that is read (R33); the
zeros are a DESIGN CHOICE (log entry 1). -/
def Sized.Ports.idle {opW : Nat} : Sized.Ports opW :=
  { RESET := false, request := false, command := { CMD := 0, OPA := 0, OPB := 0 } }

/-- A block right after reset: STATE = 123456789 (R34, R240, R242), and the block waits for the first command (R41):
nothing presented, nothing answered. -/
def Sized.State.afterReset {opW coefW expW : Nat} : Sized.State opW coefW expW :=
  { STATE := BitVec.ofNat 64 Config.defaultSeed, ports := Sized.Ports.idle, host := [], responses := [] }

/-- The machine right after reset. -/
def State.reset : State := Sized.State.afterReset

/-- The state of the block with parameters p. -/
abbrev StateFor (p : Config.Params) : Type := Sized.State p.opW p.resCoefW p.resExpW

end Sys2Proof.Machine
end

