-- ==== Sys2Proof/Machine/Flags.lean ====
section
/-! DEFINITION. The STATUS field, which is all the block has of flags (R14, R29), and the checks that decide it, in the
order of priority R204. -/

namespace Sys2Proof.Machine

open Sys2Proof

/-- The code column of R201. -/
def Status.code : Status → StatusCode
  | .ok => 0
  | .illegalCmd => 1
  | .invalidBlocks => 2
  | .invalidRange => 3

/-- INVALID_BLOCKS when B = 0 (R207). -/
def checkBlocks (blocks : Nat) : Option Status :=
  if blocks = 0 then some .invalidBlocks else none

/-- INVALID_RANGE when the upper bound is below the lower; equal bounds are valid (R208). -/
def checkRange (low high : Int) : Option Status :=
  if high < low then some .invalidRange else none

/-- The block count is checked before the range (R204). -/
def checkBlocksThenRange (blocks : Nat) (low high : Int) : Option Status :=
  match checkBlocks blocks with
  | some e => some e
  | none => checkRange low high

end Sys2Proof.Machine
end

