-- ==== Sys2Proof/Machine/Operands.lean ====
section
/-! DEFINITION. How a command reads the operand buses (R65 to R69), how decimal bounds are aligned (R151), and how a
result is placed on the result bus (R70, R71). -/

namespace Sys2Proof.Machine

open Sys2Proof Sys2Proof.Config

variable {opW coefW expW : Nat}

/-- `X[lo+w-1 : lo]` of an operand bus, as a pattern (R10). -/
def busField (lo w : Nat) (bus : BitVec opW) : BitVec w := bus.extractLsb' lo w

/-- The same field read as a signed value, `sw(X[lo+w-1 : lo])` (R11). -/
def signedField (lo w : Nat) (bus : BitVec opW) : Int := (busField lo w bus).toInt

/-- SEED's operand: OPA[63:0] (R66, R104). -/
def seedOperand (bus : BitVec opW) : GenWord := busField 0 64 bus

/-- RINT's bound on one bus: s64(X[63:0]) (R67). -/
def rintBound (bus : BitVec opW) : Int := signedField 0 64 bus

/-- RBIG's bound on one bus: sP_BIG_W(X[P_BIG_W-1:0]) (R68). -/
def rbigBound (p : Params) (bus : BitVec opW) : Int := signedField 0 p.bigW bus

/-- A decimal value coef x 10^exp, as a pair (R69, D10). -/
structure Dec where
  coef : Int
  exp  : Int
deriving DecidableEq, Repr

/-- RFRAC's bound on one bus: coefficient s512(X[511:0]), exponent s8(X[519:512]) (R69); for other parameter values the
exponent follows the coefficient (log entry 3). -/
def rfracBound (p : Params) (bus : BitVec opW) : Dec :=
  { coef := signedField 0 p.decCoefW bus, exp := signedField p.decCoefW p.decExpW bus }

/-- 10^n as an exact integer. -/
def pow10 (n : Nat) : Int := ((10 ^ n : Nat) : Int)

/-- 2^n as an exact integer. -/
def pow2 (n : Nat) : Int := ((2 ^ n : Nat) : Int)

/-- 5^n as an exact integer. -/
def pow5 (n : Nat) : Int := ((5 ^ n : Nat) : Int)

/-- `e <- min(qmin, qmax)` (R151). -/
def commonExp (x y : Dec) : Int := min x.exp y.exp

/-- `c * 10^(q - e)`: the coefficient of the same value at exponent e ≤ q (R151). -/
def alignedCoef (e : Int) (x : Dec) : Int := x.coef * pow10 (x.exp - e).toNat

/-- `zext_4608(word)`: RAW's result, 4608 being P_RES_COEF_W (R71). -/
def placeWord (w : GenWord) : BitVec coefW := w.setWidth coefW

/-- `sext_4608(uw(r))`: RINT's result with w = 64, RBIG's with w = P_BIG_W (R71). -/
def placeSigned (w : Nat) (r : Int) : BitVec coefW := (BitVec.ofInt w r).signExtend coefW

/-- `u4608(n)`: RFRAC's coefficient (R13, R155). -/
def placeCoef (n : Int) : BitVec coefW := BitVec.ofInt coefW n

/-- `u16(e)`: RFRAC's exponent (R13, R155). -/
def placeExp (e : Int) : BitVec expW := BitVec.ofInt expW e

/-- RES = RES[4623:0] with COEF = RES[4607:0] and EXP = RES[4623:4608] (R33, R70). -/
def Sized.Response.RES (r : Sized.Response coefW expW) : BitVec (expW + coefW) := r.EXP ++ r.COEF

end Sys2Proof.Machine
end

