-- ==== Sys2Proof/Machine/Ops.lean ====
section
/-! DEFINITION. The shared operations: the LCG and the words and values drawn through it, range mapping, the two ways a
command ends (`respond`, `raise`), reset, and the host's side of a step. There is no memory and no program counter to
operate on (R28, R40). -/

namespace Sys2Proof.Machine

open Sys2Proof Sys2Proof.Config

variable {opW coefW expW : Nat}

/-- The command the host presents (R13). -/
def Sized.State.CMD (s : Sized.State opW coefW expW) : CmdWord := s.ports.command.CMD

/-- Operand bus OPA of the command being performed (R13). -/
def Sized.State.OPA (s : Sized.State opW coefW expW) : BitVec opW := s.ports.command.OPA

/-- Operand bus OPB of the command being performed (R13). -/
def Sized.State.OPB (s : Sized.State opW coefW expW) : BitVec opW := s.ports.command.OPB

/-- `STATE <- v` (R13). -/
def Sized.State.setSTATE (s : Sized.State opW coefW expW) (v : GenWord) : Sized.State opW coefW expW :=
  { s with STATE := v }

/-- The single transition: the exact product and sum, reduced modulo 2^64 (R101). -/
def lcg (s : GenWord) : GenWord := BitVec.ofNat 64 (lcgA * s.toNat + lcgC)

/-- Nested iteration `lcg^L` (R102). -/
def lcgIter : Nat → GenWord → GenWord
  | 0, s => s
  | k + 1, s => lcg (lcgIter k s)

/-- `gen_word(L)`: L transitions of STATE, which is written back and is the word drawn (R106). -/
def genWord (layers : Nat) (s : Sized.State opW coefW expW) : GenWord × Sized.State opW coefW expW :=
  (lcgIter layers s.STATE, s.setSTATE (lcgIter layers s.STATE))

/-- The loop of `gen_val` from a value already accumulated (R125). -/
def genValFrom (layers : Nat) : Nat → Nat → Sized.State opW coefW expW → Nat × Sized.State opW coefW expW
  | 0, val, s => (val, s)
  | b + 1, val, s => genValFrom layers b (val * 2 ^ 64 + (genWord layers s).1.toNat) (genWord layers s).2

/-- `gen_val(B, L)`: B words, the first drawn the most significant (R125). -/
def genVal (blocks layers : Nat) (s : Sized.State opW coefW expW) : Nat × Sized.State opW coefW expW :=
  genValFrom layers blocks 0 s

/-- `span = high - low + 1`, exact (R120). -/
def span (low high : Int) : Int := high - low + 1

/-- `low + (v mod span)`; span > 0 wherever it is used, so this is the floored remainder of R12 (R122, R126). -/
def mapIntoRange (low high : Int) (v : Nat) : Int := low + (v : Int) % span low high

/-- `respond(status, coef, exp)`: ends the command with one response (R13). -/
def respond (st : Status) (coef : BitVec coefW) (exp : BitVec expW) (s : Sized.State opW coefW expW) :
    Sized.State opW coefW expW :=
  { s with responses := s.responses ++ [{ STATUS := st.code, COEF := coef, EXP := exp }] }

/-- `raise E` = `respond(code(E), 0, 0)` (R13). This is all an error does: no state saved, no mode changed, no control
transferred, STATE unchanged (R209, R210); so nothing is to be returned from. -/
def raise (e : Status) (s : Sized.State opW coefW expW) : Sized.State opW coefW expW := respond e 0 0 s

/-- Every check of a command precedes its first LCG step (R205): a failed check raises, otherwise the command is
performed. -/
def guarded (check : Option Status) (s : Sized.State opW coefW expW)
    (perform : Sized.State opW coefW expW → Sized.State opW coefW expW) :
    Host.Outcome (Sized.State opW coefW expW) Fault Refusal :=
  match check with
  | some e => .next (raise e s)
  | none => .next (perform s)

/-- A word that does not decode (R205, R206). -/
def illegalCommand (s : Sized.State opW coefW expW) : Sized.State opW coefW expW := raise .illegalCmd s

/-- Reset: construction with the default seed; a command in progress is abandoned without a response (R240, R241). -/
def resetBlock (s : Sized.State opW coefW expW) : Sized.State opW coefW expW := s.setSTATE (BitVec.ofNat 64 defaultSeed)

/-- The host takes the response and drives what it presents next; with nothing left it presents nothing (R28, R246).
The block takes no part in this.
Mark: DESIGN CHOICE (log entry 1): the spec gives no value for a bus on which nothing is presented, so with nothing
left, also after a reset, CMD, OPA and OPB keep what they carried last and RESET is low; a later withFetchWord reads those
operands. -/
def hostAdvance (s : Sized.State opW coefW expW) : Sized.State opW coefW expW :=
  match s.host with
  | [] => { s with ports := { s.ports with RESET := false, request := false } }
  | p :: rest => { s with ports := p, host := rest }

/-- The step after the command: only a next state goes on. -/
def thenHost :
    Host.Outcome (Sized.State opW coefW expW) Fault Refusal → Host.Outcome (Sized.State opW coefW expW) Fault Refusal
  | .next s => .next (hostAdvance s)
  | .fault r => .fault r
  | .refused r => .refused r

/-- The whole step around a dispatch `run` of the decoded instructions. Reset takes precedence over every command (R212,
R241). Without reset a presented command is decoded and performed (R205). With nothing presented the block does not act
(R17). -/
def blockStep
    (run : Instr → Sized.State opW coefW expW → Host.Outcome (Sized.State opW coefW expW) Fault Refusal)
    (s : Sized.State opW coefW expW) : Host.Outcome (Sized.State opW coefW expW) Fault Refusal :=
  if s.ports.RESET then .next (hostAdvance (resetBlock s))
  else if s.ports.request then
    match decode s.CMD with
    | .legal i => thenHost (run i s)
    | .illegal _ => .next (hostAdvance (illegalCommand s))
  else .next (hostAdvance s)

/-- A command presented with no reset asserted. -/
def Sized.Command.present (c : Sized.Command opW) : Sized.Ports opW := { RESET := false, request := true, command := c }

/-- The host is given a program: the list of commands it will present, in order (R28, R253). -/
def Sized.State.withProgram (s : Sized.State opW coefW expW) (cs : List (Sized.Command opW)) :
    Sized.State opW coefW expW :=
  { s with host := cs.map Sized.Command.present }

end Sys2Proof.Machine
end

