-- ==== Sys2Proof/Machine/Generator.lean ====
section
/-! DEFINITION. The generator family: SEED and RAW (40_generator.md), and the closed form of L transitions (R103). -/

namespace Sys2Proof.Machine

open Sys2Proof Sys2Proof.Config

variable {opW coefW expW : Nat}

/-- SEED (R105): `STATE <- OPA[63:0]; respond(OK, 0, 0)`. -/
def execSeed (s : Sized.State opW coefW expW) :
    Host.Outcome (Sized.State opW coefW expW) Fault Refusal :=
  .next (respond .ok 0 0 (s.setSTATE (seedOperand s.OPA)))

/-- RAW (R107): `w <- gen_word(L); respond(OK, zext_4608(w), 0)`. -/
def execRaw (layers : Nat) (s : Sized.State opW coefW expW) :
    Host.Outcome (Sized.State opW coefW expW) Fault Refusal :=
  .next (respond .ok (placeWord (genWord layers s).1) 0 (genWord layers s).2)

/-- A_L = a^L mod 2^64 (R103). -/
def lcgMulOf (layers : Nat) : GenWord := BitVec.ofNat 64 (lcgA ^ layers)

/-- a^0 + a^1 + ... + a^(L-1), exact (R103). -/
def lcgGeom : Nat → Nat
  | 0 => 0
  | k + 1 => lcgGeom k + lcgA ^ k

/-- C_L = c * (a^0 + ... + a^(L-1)) mod 2^64 (R103). -/
def lcgIncOf (layers : Nat) : GenWord := BitVec.ofNat 64 (lcgC * lcgGeom layers)

/-- The one multiply-add by which a realisation may compute a raw word (R103). -/
def lcgJump (layers : Nat) (s : GenWord) : GenWord := lcgMulOf layers * s + lcgIncOf layers

end Sys2Proof.Machine
end

