-- ==== Sys2Proof/Machine/PrecisionScaling.lean ====
section
/-! DEFINITION. The precision-scaling family: RFRAC (42_precision_scaling.md), in exact integer arithmetic. -/

namespace Sys2Proof.Machine

open Sys2Proof Sys2Proof.Config

variable {opW coefW expW : Nat}

/-- `n = 64 * B` (R152, R155). -/
def fracBits (blocks : Nat) : Nat := 64 * blocks

/-- `N = (M * 2^n + (X - M) * val) * 5^n`, exact and not normalised (R155, R156). -/
def rfracCoef (n : Nat) (m x : Int) (val : Nat) : Int := (m * pow2 n + (x - m) * (val : Int)) * pow5 n

/-- The range check on the aligned bounds, block count first (R151, R155, R204). -/
def checkRfrac (blocks : Nat) (lo hi : Dec) : Option Status :=
  checkBlocksThenRange blocks (alignedCoef (commonExp lo hi) lo) (alignedCoef (commonExp lo hi) hi)

/-- The part of RFRAC after its checks (R155). -/
def performRfrac (blocks layers : Nat) (lo hi : Dec) (s : Sized.State opW coefW expW) : Sized.State opW coefW expW :=
  respond .ok
    (placeCoef (rfracCoef (fracBits blocks) (alignedCoef (commonExp lo hi) lo) (alignedCoef (commonExp lo hi) hi)
      (genVal blocks layers s).1))
    (placeExp (commonExp lo hi - (fracBits blocks : Int)))
    (genVal blocks layers s).2

/-- RFRAC of a realisation with parameters p (R155, D10): the block check, the range check, then B words. -/
def execRfracWith (p : Params) (blocks layers : Nat) (s : Sized.State opW coefW expW) :
    Host.Outcome (Sized.State opW coefW expW) Fault Refusal :=
  guarded (checkRfrac blocks (rfracBound p s.OPA) (rfracBound p s.OPB)) s
    (performRfrac blocks layers (rfracBound p s.OPA) (rfracBound p s.OPB))

/-- RFRAC (R155) with the listed parameters (R7). -/
def execRfrac (blocks layers : Nat) (s : State) : Host.Outcome State Fault Refusal :=
  execRfracWith Params.listed blocks layers s

end Sys2Proof.Machine
end

