-- ==== Sys2Proof/Machine/RangeMapping.lean ====
section
/-! DEFINITION. The range-mapping family: RINT and RBIG (41_range_mapping.md). -/

namespace Sys2Proof.Machine

open Sys2Proof Sys2Proof.Config

variable {opW coefW expW : Nat}

/-- The part of RINT after its check (R122). -/
def performRint (layers : Nat) (low high : Int) (s : Sized.State opW coefW expW) : Sized.State opW coefW expW :=
  respond .ok (placeSigned 64 (mapIntoRange low high (genWord layers s).1.toNat)) 0 (genWord layers s).2

/-- RINT (R122): the range check, then one word. -/
def execRint (layers : Nat) (s : Sized.State opW coefW expW) :
    Host.Outcome (Sized.State opW coefW expW) Fault Refusal :=
  guarded (checkRange (rintBound s.OPA) (rintBound s.OPB)) s
    (performRint layers (rintBound s.OPA) (rintBound s.OPB))

/-- The part of RBIG after its checks (R126). -/
def performRbig (p : Params) (blocks layers : Nat) (low high : Int) (s : Sized.State opW coefW expW) :
    Sized.State opW coefW expW :=
  respond .ok (placeSigned p.bigW (mapIntoRange low high (genVal blocks layers s).1)) 0 (genVal blocks layers s).2

/-- RBIG of a realisation with parameters p (R126, D9): the block check, the range check, then B words. -/
def execRbigWith (p : Params) (blocks layers : Nat) (s : Sized.State opW coefW expW) :
    Host.Outcome (Sized.State opW coefW expW) Fault Refusal :=
  guarded (checkBlocksThenRange blocks (rbigBound p s.OPA) (rbigBound p s.OPB)) s
    (performRbig p blocks layers (rbigBound p s.OPA) (rbigBound p s.OPB))

/-- RBIG (R126) with the listed parameters (R7). -/
def execRbig (blocks layers : Nat) (s : State) : Host.Outcome State Fault Refusal :=
  execRbigWith Params.listed blocks layers s

end Sys2Proof.Machine
end

