-- ==== Sys2Proof/Machine/Dispatch.lean ====
section
/-! DEFINITION. One arm per instruction (R205). -/

namespace Sys2Proof.Machine

open Sys2Proof

def exec (i : Instr) (s : State) : Host.Outcome State Fault Refusal :=
  match i with
  | .seed => Sys2Proof.Machine.execSeed s
  | .raw layers => Sys2Proof.Machine.execRaw layers s
  | .rint layers => Sys2Proof.Machine.execRint layers s
  | .rbig blocks layers => Sys2Proof.Machine.execRbig blocks layers s
  | .rfrac blocks layers => Sys2Proof.Machine.execRfrac blocks layers s

end Sys2Proof.Machine
end

