-- ==== Sys2Proof/Machine/Step.lean ====
section
/-! DEFINITION. One step of the machine: a reset, a command, or a wait, and then the host's next presentation (R17, R19,
R205, R240). -/

namespace Sys2Proof.Machine

open Sys2Proof

/-- The step of the listed block: `blockStep` says when the decoded instruction runs, `exec` what it does. -/
def step (s : State) : Host.Outcome State Fault Refusal := blockStep exec s

/-- The command word is presented on CMD with no reset asserted; the operand buses carry what they carried. This stands
for the host presenting the word (log entry 2). -/
def State.withFetchWord (s : State) (nbits w : Nat) : State :=
  { s with
    ports :=
      { RESET := false
        request := true
        command := { s.ports.command with CMD := BitVec.ofNat 32 (w % 2 ^ nbits) } } }

end Sys2Proof.Machine
end

