-- ==== Sys2Proof/Machine/Assembler.lean ====
section
/-! DEFINITION. The assembler of 30_encoding.md section 4 (R80 to R88): from a line of text to the command the host
presents. The block takes no part in it; it is modelled because the spec fixes it. Text is a list of characters. -/

namespace Sys2Proof.Machine

open Sys2Proof Sys2Proof.Config

/-- Why a line does not assemble. The spec says only that the assembler "rejects" (R86). -/
inductive AsmError where
  /-- No mnemonic or pseudo-instruction of R87. -/
  | unknownMnemonic
  /-- Too few or too many operands, or an operand omitted before a given one (R80). -/
  | operandCount
  /-- An operand that is no literal of R86. -/
  | badLiteral
  /-- A literal whose value or pair does not fit the field it goes to (R86). -/
  | doesNotFit
deriving DecidableEq, Repr

/-- A line after its operands are read: an omitted trailing operand is `none` (R80). -/
inductive AsmLine where
  | seed (seed : Option Int)
  | raw (layers : Option Int)
  | rint (low high : Int) (layers : Option Int)
  | rbig (low high : Int) (blocks layers : Option Int)
  | rfrac (lo hi : Dec) (blocks layers : Option Int)
deriving DecidableEq, Repr

/-! ### Encoding a line (R81 to R85) -/

/-- v fits a signed field of w bits. -/
def fitsSigned (w : Nat) (v : Int) : Bool := decide (-pow2 (w - 1) ≤ v ∧ v < pow2 (w - 1))

/-- v fits an unsigned field of w bits. -/
def fitsUnsigned (w : Nat) (v : Int) : Bool := decide (0 ≤ v ∧ v < pow2 w)

/-- A bus that carries `uw(v)` in its low w bits and 0 elsewhere. R81 and R83 say that the other bits of SEED's OPA and of
RINT's buses are 0.
Mark: DESIGN CHOICE (log entry 4) for RBIG's buses: R84 gives no value for the bits above its operand. -/
def intBus {opW : Nat} (w : Nat) (v : Int) : BitVec opW := (BitVec.ofInt w v).setWidth opW

/-- A bus that carries a decimal pair (R85) and 0 elsewhere.
Marks: DESIGN CHOICE (log entry 4), R85 gives no value for the bits above the exponent; DEDUCED (log entry 3), for other
parameter values the exponent follows the coefficient. -/
def decBus {opW : Nat} (p : Params) (x : Dec) : BitVec opW :=
  (BitVec.ofInt p.decExpW x.exp ++ BitVec.ofInt p.decCoefW x.coef).setWidth opW

/-- An omitted operand takes the default of §6 (R80, R87). -/
def orDefault (d : Nat) (o : Option Int) : Int := o.getD (d : Int)

/-- The line's command if its operands fit. -/
def whenFits {opW : Nat} (fits : Bool) (c : Sized.Command opW) : Except AsmError (Sized.Command opW) :=
  if fits then .ok c else .error .doesNotFit

/-- The decimal pair fits its operand (R69, R86). -/
def fitsDec (p : Params) (x : Dec) : Bool := fitsSigned p.decCoefW x.coef && fitsSigned p.decExpW x.exp

/-- The command of a line (R81 to R85).
Mark: DESIGN CHOICE (log entry 4): a bus the command does not read (both of RAW's and PEEK's, SEED's OPB) is driven with 0;
R81 and R82 give it no value. -/
def assembleLine (p : Params) : AsmLine → Except AsmError (Sized.Command p.opW)
  | .seed sd =>
    whenFits (decide (0 ≤ orDefault defaultSeed sd))
      { CMD := encode .seed, OPA := intBus 64 (orDefault defaultSeed sd), OPB := 0 }
  | .raw l =>
    whenFits (fitsUnsigned 8 (orDefault defaultLayers l))
      { CMD := encode (.raw (orDefault defaultLayers l).toNat), OPA := 0, OPB := 0 }
  | .rint lo hi l =>
    whenFits (fitsSigned 64 lo && fitsSigned 64 hi && fitsUnsigned 8 (orDefault defaultLayers l))
      { CMD := encode (.rint (orDefault defaultLayers l).toNat), OPA := intBus 64 lo, OPB := intBus 64 hi }
  | .rbig lo hi b l =>
    whenFits (fitsSigned p.bigW lo && fitsSigned p.bigW hi && fitsUnsigned 4 (orDefault defaultBlocks b)
        && fitsUnsigned 8 (orDefault defaultLayers l))
      { CMD := encode (.rbig (orDefault defaultBlocks b).toNat (orDefault defaultLayers l).toNat)
        OPA := intBus p.bigW lo, OPB := intBus p.bigW hi }
  | .rfrac lo hi b l =>
    whenFits (fitsDec p lo && fitsDec p hi && fitsUnsigned 4 (orDefault defaultBlocks b)
        && fitsUnsigned 8 (orDefault defaultLayers l))
      { CMD := encode (.rfrac (orDefault defaultBlocks b).toNat (orDefault defaultLayers l).toNat)
        OPA := decBus p lo, OPB := decBus p hi }

/-! ### Literals (R86) -/

/-- The text before the first `c`, and the text after it if there is one. -/
def splitFirst (c : Char) : List Char → List Char × Option (List Char)
  | [] => ([], none)
  | d :: ds =>
    if d = c then ([], some ds) else ((d :: (splitFirst c ds).1), (splitFirst c ds).2)

/-- The text cut at every `c`. -/
def splitAll (c : Char) : List Char → List (List Char)
  | [] => [[]]
  | d :: ds =>
    match splitAll c ds with
    | [] => [[d]]
    | f :: fs => if d = c then [] :: f :: fs else (d :: f) :: fs

/-- The value of one digit in the given base, 10 or 16. -/
def digitValue (base : Nat) (c : Char) : Option Nat :=
  if c.isDigit then some (c.toNat - '0'.toNat)
  else if base = 16 ∧ 'a' ≤ c ∧ c ≤ 'f' then some (c.toNat - 'a'.toNat + 10)
  else if base = 16 ∧ 'A' ≤ c ∧ c ≤ 'F' then some (c.toNat - 'A'.toNat + 10)
  else none

/-- Digits continued from a value. -/
def digitsFrom (base : Nat) : Nat → List Char → Option Nat
  | acc, [] => some acc
  | acc, c :: cs =>
    match digitValue base c with
    | some d => digitsFrom base (acc * base + d) cs
    | none => none

/-- One digit or more. -/
def digits (base : Nat) : List Char → Option Nat
  | [] => none
  | cs => digitsFrom base 0 cs

/-- An optional minus sign before a magnitude. -/
def signed (mag : List Char → Option Nat) : List Char → Option Int
  | '-' :: cs => (mag cs).map fun n => -(n : Int)
  | cs => (mag cs).map fun n => (n : Int)

/-- `0xhexdigits`, `digits e digits` or `digits` (R86).
Mark: DESIGN CHOICE (log entry 4): R86 writes the form `digits e digits` with blanks and its example `-1e50` without, and
does not say whether blanks may stand around the `e`; they are rejected here. -/
def intMagnitude : List Char → Option Nat
  | '0' :: 'x' :: hs => digits 16 hs
  | cs =>
    match splitFirst 'e' cs with
    | (ds, none) => digits 10 ds
    | (ds, some es) =>
      match digits 10 ds, digits 10 es with
      | some d, some e => some (d * 10 ^ e)
      | _, _ => none

/-- An integer literal (R86). -/
def intLiteral (cs : List Char) : Option Int := signed intMagnitude cs

/-- All digits of `digits[.digits]`, and how many stand after the point (R86). -/
def mantissa (cs : List Char) : Option (Nat × Nat) :=
  match splitFirst '.' cs with
  | (ds, none) => (digits 10 ds).map fun d => (d, 0)
  | (ds, some fs) =>
    match digits 10 ds, digits 10 fs with
    | some _, some _ => (digits 10 (ds ++ fs)).map fun d => (d, fs.length)
    | _, _ => none

/-- The sign of a literal and the text after it. -/
def takeSign : List Char → Int × List Char
  | '-' :: cs => (-1, cs)
  | cs => (1, cs)

/-- A decimal literal `[-]digits[.digits][e[-]digits]` and the pair it denotes (R86). -/
def decLiteral (cs : List Char) : Option Dec :=
  match splitFirst 'e' (takeSign cs).2 with
  | (ms, none) =>
    (mantissa ms).map fun m => { coef := (takeSign cs).1 * (m.1 : Int), exp := -(m.2 : Int) }
  | (ms, some es) =>
    match mantissa ms, signed (digits 10) es with
    | some m, some e => some { coef := (takeSign cs).1 * (m.1 : Int), exp := e - (m.2 : Int) }
    | _, _ => none

/-! ### Lines (R80) -/

/-- White space inside a line. -/
def isBlank (c : Char) : Bool := c = ' ' || c = '\t' || c = '\r'

/-- The text without white space at its ends. -/
def trim (cs : List Char) : List Char := ((cs.dropWhile isBlank).reverse.dropWhile isBlank).reverse

/-- The line without its comment: `;` to the end of the line (R80). -/
def dropComment (cs : List Char) : List Char := (splitFirst ';' cs).1

/-- The operands, separated by commas; none when nothing stands after the mnemonic (R80). -/
def operandTexts (cs : List Char) : List (List Char) :=
  match trim cs with
  | [] => []
  | t => (splitAll ',' t).map trim

/-- The operands as literals of one kind: an empty text is an operand omitted before another (R80). -/
def literals (read : List Char → Option α) : List (List Char) → Except AsmError (List α)
  | [] => .ok []
  | [] :: _ => .error .operandCount
  | t :: ts =>
    match read t, literals read ts with
    | none, _ => .error .badLiteral
    | some _, .error e => .error e
    | some v, .ok vs => .ok (v :: vs)

/-- At most one trailing operand (R81, R82). -/
def oneOptional (mk : Option Int → AsmLine) : List Int → Except AsmError AsmLine
  | [] => .ok (mk none)
  | [a] => .ok (mk (some a))
  | _ => .error .operandCount

/-- Two operands and one optional (R83). -/
def rintOperands : List Int → Except AsmError AsmLine
  | [lo, hi] => .ok (.rint lo hi none)
  | [lo, hi, l] => .ok (.rint lo hi (some l))
  | _ => .error .operandCount

/-- Two operands and two optional (R84). -/
def rbigOperands : List Int → Except AsmError AsmLine
  | [lo, hi] => .ok (.rbig lo hi none none)
  | [lo, hi, b] => .ok (.rbig lo hi (some b) none)
  | [lo, hi, b, l] => .ok (.rbig lo hi (some b) (some l))
  | _ => .error .operandCount

/-- Two decimal bounds, then what RBIG's counts are (R85). -/
def rfracOperands : List (List Char) → Except AsmError AsmLine
  | lo :: hi :: counts =>
    match literals decLiteral [lo, hi], literals intLiteral counts with
    | .ok [x, y], .ok [] => .ok (.rfrac x y none none)
    | .ok [x, y], .ok [b] => .ok (.rfrac x y (some b) none)
    | .ok [x, y], .ok [b, l] => .ok (.rfrac x y (some b) (some l))
    | .ok _, .ok _ => .error .operandCount
    | .error e, _ => .error e
    | .ok _, .error e => .error e
  | _ => .error .operandCount

/-- Read the operands as integers and go on. -/
def withInts (ops : List (List Char)) (k : List Int → Except AsmError AsmLine) : Except AsmError AsmLine :=
  match literals intLiteral ops with
  | .ok vs => k vs
  | .error e => .error e

/-- PEEK takes no operand: it is `RAW 0` (R82, R87). -/
def peekOperands : List (List Char) → Except AsmError AsmLine
  | [] => .ok (.raw (some 0))
  | _ => .error .operandCount

/-- One line with a mnemonic, its case ignored (R80); NEW and PEEK are the pseudo-instructions of R87. -/
def parseCommand (name : List Char) (ops : List (List Char)) : Except AsmError AsmLine :=
  if name.map Char.toUpper = "SEED".toList then withInts ops (oneOptional .seed)
  else if name.map Char.toUpper = "NEW".toList then withInts ops (oneOptional .seed)
  else if name.map Char.toUpper = "RAW".toList then withInts ops (oneOptional .raw)
  else if name.map Char.toUpper = "PEEK".toList then peekOperands ops
  else if name.map Char.toUpper = "RINT".toList then withInts ops rintOperands
  else if name.map Char.toUpper = "RBIG".toList then withInts ops rbigOperands
  else if name.map Char.toUpper = "RFRAC".toList then rfracOperands ops
  else .error .unknownMnemonic

/-- A line of text: none when it holds no command (blank or comment only; log entry 4). -/
def parseLine (cs : List Char) : Option (Except AsmError AsmLine) :=
  match trim (dropComment cs) with
  | [] => none
  | t => some (parseCommand (t.takeWhile fun c => !isBlank c) (operandTexts (t.dropWhile fun c => !isBlank c)))

/-- A line of text to its command. -/
def assembleText (p : Params) (cs : List Char) : Option (Except AsmError (Sized.Command p.opW)) :=
  match parseLine cs with
  | none => none
  | some (.error e) => some (.error e)
  | some (.ok l) => some (assembleLine p l)

/-- Lines in order; the first that does not assemble ends the assembly. -/
def assembleLines (p : Params) : List (List Char) → Except AsmError (List (Sized.Command p.opW))
  | [] => .ok []
  | cs :: rest =>
    match assembleText p cs, assembleLines p rest with
    | none, r => r
    | some (.error e), _ => .error e
    | some (.ok _), .error e => .error e
    | some (.ok c), .ok out => .ok (c :: out)

/-- A program: a sequence of lines, one command per line (R80). -/
def assembleProgram (p : Params) (cs : List Char) : Except AsmError (List (Sized.Command p.opW)) :=
  assembleLines p (splitAll '\n' cs)

end Sys2Proof.Machine
end

