-- ==== Sys2Proof/Machine/Instances.lean ====
section
/-! DEFINITION. A system of several blocks (R24, R216): each has its own State, each step belongs to one of them. -/

namespace Sys2Proof.Machine

open Sys2Proof

/-- Several copies of the block, each with its own ports and its own host list. -/
abbrev System := List State

/-- Copy k takes its step; k out of range names no block and nothing happens. Which copy moves next is not fixed by the
spec (R54), so it is the argument. -/
def System.stepAt (k : Nat) (sys : System) : Host.Outcome System Fault Refusal :=
  match sys[k]? with
  | none => .next sys
  | some s =>
    match step s with
    | .next t => .next (sys.set k t)
    | .fault r => .fault r
    | .refused r => .refused r

end Sys2Proof.Machine
end

