-- ==== Sys2Proof/Machine/Realisation.lean ====
section
/-! DEFINITION. The machine with the parameters of R7 as its argument (D9, D10): `exec`, `step` and the host's machine for
any realisation. Only RBIG and RFRAC depend on a parameter other than the widths of the buses (R68, R69). -/

namespace Sys2Proof.Machine

open Sys2Proof Sys2Proof.Config

/-- What an instruction does in the block with parameters p (R205). -/
def execWith (p : Params) (i : Instr) (s : StateFor p) : Host.Outcome (StateFor p) Fault Refusal :=
  match i with
  | .seed => execSeed s
  | .raw layers => execRaw layers s
  | .rint layers => execRint layers s
  | .rbig blocks layers => execRbigWith p blocks layers s
  | .rfrac blocks layers => execRfracWith p blocks layers s

/-- One step of the block with parameters p. -/
def stepWith (p : Params) (s : StateFor p) : Host.Outcome (StateFor p) Fault Refusal :=
  blockStep (execWith p) s

/-- The machine with parameters p, its buses of the widths p names. -/
def coreWith (p : Params) : Host.Core :=
  { State := StateFor p, Fault := Fault, Refusal := Refusal, step := stepWith p, reset := Sized.State.afterReset }

end Sys2Proof.Machine
end

