-- ==== Sys2Proof/Safety.lean ====
section
/-! DEFINITION. The terms claims are stated in: what a response means, which responses are lawful, what a command is
answered by as one function of STATE and the ports (R19), and what a run is observed to do (R253). Values are written
here in closed form, as the spec's prose gives them, and not by the loops of Machine/Ops.lean. -/

namespace Sys2Proof

/-! ### What a command costs and reads -/

/-- How many transitions a command takes when it completes (R251, R252). -/
def Instr.transitions : Instr → Nat
  | .seed => 0
  | .raw l => l
  | .rint l => l
  | .rbig b l => b * l
  | .rfrac b l => b * l

/-- How many low bits of OPA a command reads (R66). -/
def Instr.readsOPA : Instr → Nat
  | .seed => 64
  | .raw _ => 0
  | .rint _ => 64
  | .rbig _ _ => 512
  | .rfrac _ _ => 520

/-- How many low bits of OPB a command reads (R66). -/
def Instr.readsOPB : Instr → Nat
  | .seed => 0
  | .raw _ => 0
  | .rint _ => 64
  | .rbig _ _ => 512
  | .rfrac _ _ => 520

end Sys2Proof

namespace Sys2Proof.Machine

open Sys2Proof Sys2Proof.Config

variable {opW coefW expW : Nat}

/-! ### Responses -/

/-- A command that completed. -/
def okResponse (coef : BitVec coefW) (exp : BitVec expW) : Sized.Response coefW expW :=
  { STATUS := 0, COEF := coef, EXP := exp }

/-- A command that ended with an error: COEF = 0 and EXP = 0 (R72, R209). -/
def errorResponse (e : Status) : Sized.Response coefW expW := { STATUS := e.code, COEF := 0, EXP := 0 }

/-- The value on the result bus: s4608(COEF) x 10^s16(EXP) (R70). -/
def Sized.Response.value (r : Sized.Response coefW expW) : ℚ := (r.COEF.toInt : ℚ) * (10 : ℚ) ^ r.EXP.toInt

/-- The value of a decimal operand: coef x 10^exp (R69, R150). -/
def Dec.value (x : Dec) : ℚ := (x.coef : ℚ) * (10 : ℚ) ^ x.exp

/-- What every response of the listed block satisfies: the status is one of the four of R201, an error carries zeros
(R209), and the result lies within the widths R159 derives. -/
def Sized.Response.Lawful (r : Sized.Response coefW expW) : Prop :=
  r.STATUS.toNat ≤ 3 ∧ (r.STATUS ≠ 0 → r.COEF = 0 ∧ r.EXP = 0) ∧
    -1088 ≤ r.EXP.toInt ∧ r.EXP.toInt ≤ 63 ∧ r.COEF.toInt.natAbs ≤ 2 ^ 511 * 10 ^ 1215

/-- Every response delivered so far is lawful. -/
def Sized.State.ResponsesLawful (s : Sized.State opW coefW expW) : Prop := ∀ r ∈ s.responses, r.Lawful

/-! ### One command -/

/-- A command is presented and RESET is not asserted, so the block performs it at this step (R17, R240). -/
def Sized.State.Presents (s : Sized.State opW coefW expW) : Prop := s.ports.RESET = false ∧ s.ports.request = true

/-- s after one command has written STATE and been answered; nothing else has changed. -/
def Sized.State.answered (s : Sized.State opW coefW expW) (st : GenWord) (r : Sized.Response coefW expW) :
    Sized.State opW coefW expW :=
  { s with STATE := st, responses := s.responses ++ [r] }

/-- The i-th word (from 0) that a command with L layers draws (R106). -/
def wordAt (layers i : Nat) (st : GenWord) : GenWord := lcgIter ((i + 1) * layers) st

/-- `sum of w_i * 2^(64*(B - i))`, i from 1 to B: the first word is the most significant (R44, R125). -/
def blockValue (blocks layers : Nat) (st : GenWord) : Nat :=
  ∑ i ∈ Finset.range blocks, (wordAt layers i st).toNat * 2 ^ (64 * (blocks - 1 - i))

/-- RINT's answer (R122). -/
def answerRint (layers : Nat) (low high : Int) (st : GenWord) : GenWord × Sized.Response coefW expW :=
  if high < low then (st, errorResponse .invalidRange)
  else
    (lcgIter layers st,
      okResponse ((BitVec.ofInt 64 (low + ((lcgIter layers st).toNat : Int) % (high - low + 1))).signExtend coefW) 0)

/-- RBIG's answer with P_BIG_W = w (R126). -/
def answerRbig (w blocks layers : Nat) (low high : Int) (st : GenWord) : GenWord × Sized.Response coefW expW :=
  if blocks = 0 then (st, errorResponse .invalidBlocks)
  else if high < low then (st, errorResponse .invalidRange)
  else
    (lcgIter (blocks * layers) st,
      okResponse ((BitVec.ofInt w (low + (blockValue blocks layers st : Int) % (high - low + 1))).signExtend coefW) 0)

/-- `min_val = M x 10^e` with e the smaller exponent: M (R151). -/
def alignTo (x y : Dec) : Int := x.coef * ((10 ^ (x.exp - min x.exp y.exp).toNat : Nat) : Int)

/-- RFRAC's coefficient `(M * 2^n + (X - M) * val) * 5^n` with n = 64 B (R155). -/
def scaledCoef (blocks : Nat) (lo hi : Dec) (val : Nat) : Int :=
  (alignTo lo hi * ((2 ^ (64 * blocks) : Nat) : Int) + (alignTo hi lo - alignTo lo hi) * (val : Int))
    * ((5 ^ (64 * blocks) : Nat) : Int)

/-- RFRAC's exponent `e - n` (R155). -/
def scaledExp (blocks : Nat) (lo hi : Dec) : Int := min lo.exp hi.exp - 64 * (blocks : Int)

/-- RFRAC's answer (R155). -/
def answerRfrac (blocks layers : Nat) (lo hi : Dec) (st : GenWord) : GenWord × Sized.Response coefW expW :=
  if blocks = 0 then (st, errorResponse .invalidBlocks)
  else if alignTo hi lo < alignTo lo hi then (st, errorResponse .invalidRange)
  else
    (lcgIter (blocks * layers) st,
      okResponse (BitVec.ofInt coefW (scaledCoef blocks lo hi (blockValue blocks layers st)))
        (BitVec.ofInt expW (scaledExp blocks lo hi)))

/-- The decimal bound on a bus: coefficient in the low bits and the exponent above it (R69; log entry 3). -/
def decAt (p : Params) (bus : BitVec opW) : Dec :=
  { coef := (bus.extractLsb' 0 p.decCoefW).toInt, exp := (bus.extractLsb' p.decCoefW p.decExpW).toInt }

/-- The decimal bound on a bus of the listed block: coefficient X[511:0], exponent X[519:512] (R69). -/
def decOn (bus : OperandBus) : Dec :=
  { coef := (bus.extractLsb' 0 512).toInt, exp := (bus.extractLsb' 512 8).toInt }

/-- R19: the response and the next STATE as a function of STATE, the command word and the operand buses, in the block
with parameters p. -/
def answerWith (p : Params) (st : GenWord) (c : Sized.Command p.opW) : GenWord × Sized.Response p.resCoefW p.resExpW :=
  match decode c.CMD with
  | .illegal _ => (st, errorResponse .illegalCmd)
  | .legal .seed => (c.OPA.extractLsb' 0 64, okResponse 0 0)
  | .legal (.raw l) => (lcgIter l st, okResponse ((lcgIter l st).setWidth p.resCoefW) 0)
  | .legal (.rint l) => answerRint l (c.OPA.extractLsb' 0 64).toInt (c.OPB.extractLsb' 0 64).toInt st
  | .legal (.rbig b l) =>
    answerRbig p.bigW b l (c.OPA.extractLsb' 0 p.bigW).toInt (c.OPB.extractLsb' 0 p.bigW).toInt st
  | .legal (.rfrac b l) => answerRfrac b l (decAt p c.OPA) (decAt p c.OPB) st

/-- The same of the listed block. -/
abbrev answer (st : GenWord) (c : Command) : GenWord × Response := answerWith Params.listed st c

/-- The same state with other values on the operand buses. -/
def Sized.State.withOperands (s : Sized.State opW coefW expW) (a b : BitVec opW) : Sized.State opW coefW expW :=
  { s with ports := { s.ports with command := { CMD := s.CMD, OPA := a, OPB := b } } }

/-! ### Runs -/

/-- STATE after one presentation, and the response if there is one: a reset answers nothing (R241). -/
def observeOne (p : Params) (st : GenWord) (x : Sized.Ports p.opW) :
    GenWord × List (Sized.Response p.resCoefW p.resExpW) :=
  if x.RESET then (BitVec.ofNat 64 123456789, [])
  else if x.request then ((answerWith p st x.command).1, [(answerWith p st x.command).2])
  else (st, [])

/-- A run's observation: the final STATE and the responses in order (R18, R253). -/
def observe (p : Params) : GenWord → List (Sized.Ports p.opW) → GenWord × List (Sized.Response p.resCoefW p.resExpW)
  | st, [] => (st, [])
  | st, x :: xs =>
    ((observe p (observeOne p st x).1 xs).1, (observeOne p st x).2 ++ (observe p (observeOne p st x).1 xs).2)

/-- A run's observation in the listed block. -/
abbrev observeListed (st : GenWord) (xs : List Ports) : GenWord × List Response := observe Params.listed st xs

/-- A safe step is one that answers a next state; the block has no other kind (R19). -/
def Sized.State.Safe (s : Machine.State) : Prop := ∃ t, step s = .next t

end Sys2Proof.Machine
end

