-- ==== Sys2Proof/Certificates/Slice0/Obligations.lean ====
section
/-! DEFINITION. The statements for the provers, from the spec's numbered rules. Each docstring names the rule or section it
formalises; a clause that rests on a choice of the model says so. -/

open Sys2Proof Sys2Proof.Machine Sys2Proof.Config

/-! ### Encoding -/

/-- R63, branch by branch on the bits of the word; what does not decode ends with ILLEGAL_CMD, and B = 0, which decodes,
is rejected by the operation. -/
def Obligations.DecoderFollowsTable : Prop :=
  (∀ s : State, s.Presents → (decode s.CMD).instr? = none →
    step s = .next (hostAdvance (s.answered s.STATE (errorResponse .illegalCmd)))) ∧
  (∀ (l : Nat) (s : State),
    exec (.rbig 0 l) s = .next (s.answered s.STATE (errorResponse .invalidBlocks)) ∧
    exec (.rfrac 0 l) s = .next (s.answered s.STATE (errorResponse .invalidBlocks))) ∧
  ∀ w : CmdWord,
    (decode w).instr? =
      (if w.extractLsb' 4 4 ≠ 0 ∨ w.extractLsb' 20 12 ≠ 0 then none
      else if w.extractLsb' 0 4 = 1 then
        if w.extractLsb' 8 8 = 0 ∧ w.extractLsb' 16 4 = 0 then some .seed else none
      else if w.extractLsb' 0 4 = 2 then
        if w.extractLsb' 16 4 = 0 then some (.raw (w.extractLsb' 8 8).toNat) else none
      else if w.extractLsb' 0 4 = 3 then
        if w.extractLsb' 16 4 = 0 then some (.rint (w.extractLsb' 8 8).toNat) else none
      else if w.extractLsb' 0 4 = 4 then some (.rbig (w.extractLsb' 16 4).toNat (w.extractLsb' 8 8).toNat)
      else if w.extractLsb' 0 4 = 5 then some (.rfrac (w.extractLsb' 16 4).toNat (w.extractLsb' 8 8).toNat)
      else none)

/-- The match and mask columns of R64 select exactly the words that decode to each command. -/
def Obligations.MatchAndMaskSelectCommand : Prop :=
  ∀ w : CmdWord,
    (w &&& 0xFFFFFFFF#32 = 0x00000001#32 ↔ decode w = .legal .seed) ∧
    (w &&& 0xFFFF00FF#32 = 0x00000002#32 ↔ ∃ l, decode w = .legal (.raw l)) ∧
    (w &&& 0xFFFF00FF#32 = 0x00000003#32 ↔ ∃ l, decode w = .legal (.rint l)) ∧
    (w &&& 0xFFF000FF#32 = 0x00000004#32 ↔ ∃ b l, decode w = .legal (.rbig b l)) ∧
    (w &&& 0xFFF000FF#32 = 0x00000005#32 ↔ ∃ b l, decode w = .legal (.rfrac b l))

/-- Decoding the word of a well-formed instruction gives it back, every count at every value its field admits. -/
def Obligations.DecodeOfEncodeIsIdentity : Prop :=
  ∀ i : Instr, i.wellFormed = true → decode (encode i) = .legal i

/-- A word that decodes is the encoding of what it decodes to, and that is well-formed: no two words share a meaning. -/
def Obligations.EncodeOfDecodeIsIdentity : Prop :=
  ∀ (w : CmdWord) (i : Instr), decode w = .legal i → i.wellFormed = true ∧ encode i = w

/-- R74: of the 2^32 words 1 is SEED, 256 RAW, 256 RINT, 4096 RBIG, 4096 RFRAC, and 2^32 - 8705 are illegal. -/
def Obligations.CountsOfCommandWords : Prop :=
  Set.ncard { w : CmdWord | decode w = .legal .seed } = 1 ∧
  Set.ncard { w : CmdWord | ∃ l, decode w = .legal (.raw l) } = 256 ∧
  Set.ncard { w : CmdWord | ∃ l, decode w = .legal (.rint l) } = 256 ∧
  Set.ncard { w : CmdWord | ∃ b l, decode w = .legal (.rbig b l) } = 4096 ∧
  Set.ncard { w : CmdWord | ∃ b l, decode w = .legal (.rfrac b l) } = 4096 ∧
  Set.ncard { w : CmdWord | ∃ why, decode w = .illegal why } = 2 ^ 32 - 8705

/-- Words of R88, written out, and the commands they stand for. -/
def Obligations.SampleWordsDecode : Prop :=
  decode 0x00000001#32 = .legal .seed ∧
  decode 0x00000802#32 = .legal (.raw 8) ∧
  decode 0x0000FF02#32 = .legal (.raw 255) ∧
  decode 0x00000803#32 = .legal (.rint 8) ∧
  decode 0x00040804#32 = .legal (.rbig 4 8) ∧
  decode 0x00040805#32 = .legal (.rfrac 4 8)

/-! ### The generator -/

/-- R101, R102 and R106: the exact transition and its wrapping form, nested iteration, and a word drawn with its
write-back, each next word starting from the STATE the one before left. -/
def Obligations.LcgTransitionAndWord : Prop :=
  (∀ s : GenWord, (lcg s).toNat = (6364136223846793005 * s.toNat + 1442695040888963407) % 2 ^ 64) ∧
  (∀ s : GenWord, lcg s = 0x5851F42D4C957F2D#64 * s + 0x14057B7EF767814F#64) ∧
  (∀ s : GenWord, lcgIter 0 s = s) ∧
  (∀ (k : Nat) (s : GenWord), lcgIter (k + 1) s = lcg (lcgIter k s)) ∧
  (∀ (l : Nat) (s : State),
    genWord l s = (lcgIter l s.STATE, s.setSTATE (lcgIter l s.STATE)) ∧
      (genWord l (genWord l s).2).1 = lcgIter l (lcgIter l s.STATE))

/-- R103: L transitions are one multiply-add with A_L = a^L and C_L = c (a^0 + ... + a^(L-1)); the table for L = 1 to 8. -/
def Obligations.LcgClosedForm : Prop :=
  (∀ (l : Nat) (s : GenWord),
    lcgIter l s =
      BitVec.ofNat 64 (6364136223846793005 ^ l) * s +
        BitVec.ofNat 64 (1442695040888963407 * ∑ j ∈ Finset.range l, 6364136223846793005 ^ j)) ∧
  (∀ (l : Nat) (s : GenWord), lcgJump l s = lcgIter l s) ∧
  (lcgMulOf 1 = 0x5851F42D4C957F2D#64 ∧ lcgIncOf 1 = 0x14057B7EF767814F#64) ∧
  (lcgMulOf 2 = 0x685F98A2018FADE9#64 ∧ lcgIncOf 2 = 0x1A08EE1184BA6D32#64) ∧
  (lcgMulOf 3 = 0x0B046976F22528F5#64 ∧ lcgIncOf 3 = 0x9AF678222E728119#64) ∧
  (lcgMulOf 4 = 0xFB4D3AE39272BE11#64 ∧ lcgIncOf 4 = 0x66B61AE97F2099B4#64) ∧
  (lcgMulOf 5 = 0x696D29DA565AD7FD#64 ∧ lcgIncOf 5 = 0x62354CDA6226D1F3#64) ∧
  (lcgMulOf 6 = 0xF08D02B0115F7A79#64 ∧ lcgIncOf 6 = 0x8F947F36D0D0F606#64) ∧
  (lcgMulOf 7 = 0x798E21C49FF78E45#64 ∧ lcgIncOf 7 = 0x144093704FADBA5D#64) ∧
  (lcgMulOf 8 = 0xB59DDA5F38413D21#64 ∧ lcgIncOf 8 = 0x5B21778E3C8666A8#64)

/-- R109: no positive number of transitions up to 255 has a fixed point. -/
def Obligations.TransitionsHaveNoFixedPoint : Prop :=
  ∀ (l : Nat) (s : GenWord), 1 ≤ l → l ≤ 255 → lcgIter l s ≠ s

/-- R48: a generating command that completes with L ≥ 1 leaves STATE different from what it was (RBIG and RFRAC take up
to 15 x 255 transitions). -/
def Obligations.CompletedGenerationChangesState : Prop :=
  ∀ (i : Instr) (s t : State) (r : Response),
    i.wellFormed = true → i.transitions ≠ 0 → exec i s = .next t → t.responses = s.responses ++ [r] →
      r.STATUS = 0 → t.STATE ≠ s.STATE

/-- R105: SEED loads OPA[63:0], answers OK with zeros, reads neither OPB nor STATE; any other word with OP = 1 is
illegal; and its corner cases and example. -/
def Obligations.SeedConstructsGenerator : Prop :=
  (∀ s : State, exec .seed s = .next (s.answered (s.OPA.extractLsb' 0 64) (okResponse 0 0))) ∧
  (∀ s : State, s.Presents → s.CMD = 0x00000001#32 →
    step s = .next (hostAdvance (s.answered (s.OPA.extractLsb' 0 64) (okResponse 0 0)))) ∧
  (∀ s : State, s.Presents → s.CMD.extractLsb' 0 4 = 1 → s.CMD ≠ 0x00000001#32 →
    step s = .next (hostAdvance (s.answered s.STATE (errorResponse .illegalCmd)))) ∧
  (∀ (s : State) (seed : Nat), s.OPA = BitVec.ofNat 576 seed →
    exec .seed s = .next (s.answered (BitVec.ofNat 64 (seed % 2 ^ 64)) (okResponse 0 0))) ∧
  lcg 0#64 = 0x14057B7EF767814F#64 ∧
  (∀ s : State, s.OPA = BitVec.ofNat 576 92345432345698767761 →
    exec .seed s = .next (s.answered 0x018CE1738B3E1391#64 (okResponse 0 0)))

/-- R107: RAW answers the word it draws, zero-extended, and leaves it in STATE; the operand buses are not read; BLOCKS ≠ 0 is
illegal; and its corner cases and example. -/
def Obligations.RawGeneratesWord : Prop :=
  (∀ (l : Nat) (s : State),
    exec (.raw l) s =
      .next (s.answered (lcgIter l s.STATE) (okResponse ((lcgIter l s.STATE).setWidth 4608) 0))) ∧
  (∀ s : State, s.Presents → s.CMD &&& 0xFFFF00FF#32 = 0x00000002#32 →
    step s = .next (hostAdvance (s.answered (lcgIter (s.CMD.extractLsb' 8 8).toNat s.STATE)
      (okResponse ((lcgIter (s.CMD.extractLsb' 8 8).toNat s.STATE).setWidth 4608) 0)))) ∧
  (∀ s : State, s.Presents → s.CMD.extractLsb' 0 4 = 2 → s.CMD.extractLsb' 16 4 ≠ 0 →
    step s = .next (hostAdvance (s.answered s.STATE (errorResponse .illegalCmd)))) ∧
  (∀ s : State, exec (.raw 0) s = .next (s.answered s.STATE (okResponse (s.STATE.setWidth 4608) 0))) ∧
  lcg 0#64 = 0x14057B7EF767814F#64 ∧
  lcg 0xFFFFFFFFFFFFFFFF#64 = 0xBBB38751AAD20222#64 ∧
  lcgIter 8 123456789#64 = 0xE3556946B98ED75D#64

/-- R108: with L = 0 RAW answers STATE and leaves it, and every word RINT, RBIG and RFRAC draw is the STATE at the start
of the command. -/
def Obligations.ZeroLayersIsIdentity : Prop :=
  (∀ s : State, exec (.raw 0) s = .next (s.answered s.STATE (okResponse (s.STATE.setWidth 4608) 0))) ∧
  (∀ s : State, (s.OPA.extractLsb' 0 64).toInt ≤ (s.OPB.extractLsb' 0 64).toInt →
    exec (.rint 0) s =
      .next (s.answered s.STATE
        (okResponse ((BitVec.ofInt 64 ((s.OPA.extractLsb' 0 64).toInt + (s.STATE.toNat : Int) %
          ((s.OPB.extractLsb' 0 64).toInt - (s.OPA.extractLsb' 0 64).toInt + 1))).signExtend 4608) 0))) ∧
  (∀ (b : Nat) (s : State), b ≠ 0 → (s.OPA.extractLsb' 0 512).toInt ≤ (s.OPB.extractLsb' 0 512).toInt →
    exec (.rbig b 0) s =
      .next (s.answered s.STATE
        (okResponse ((BitVec.ofInt 512 ((s.OPA.extractLsb' 0 512).toInt +
          ((∑ i ∈ Finset.range b, s.STATE.toNat * 2 ^ (64 * i) : Nat) : Int) %
          ((s.OPB.extractLsb' 0 512).toInt - (s.OPA.extractLsb' 0 512).toInt + 1))).signExtend 4608) 0))) ∧
  (∀ (b : Nat) (s : State), b ≠ 0 → alignTo (decOn s.OPA) (decOn s.OPB) ≤ alignTo (decOn s.OPB) (decOn s.OPA) →
    exec (.rfrac b 0) s =
      .next (s.answered s.STATE
        (okResponse (BitVec.ofInt 4608 (scaledCoef b (decOn s.OPA) (decOn s.OPB)
            (∑ i ∈ Finset.range b, s.STATE.toNat * 2 ^ (64 * i))))
          (BitVec.ofInt 16 (scaledExp b (decOn s.OPA) (decOn s.OPB))))))

/-- R110: RAW L1 and then RAW L2 leaves the STATE that RAW (L1 + L2) leaves, and answers its word; RAW 1 and RAW 8 from
the reset value differ. -/
def Obligations.LayeringComposes : Prop :=
  (∀ (l₁ l₂ : Nat) (s : State), l₁ + l₂ ≤ 255 →
    ∃ t u v : State, exec (.raw l₁) s = .next t ∧ exec (.raw l₂) t = .next u ∧ exec (.raw (l₁ + l₂)) s = .next v ∧
      u.STATE = v.STATE ∧ u.responses.getLast? = v.responses.getLast?) ∧
  lcgIter 1 123456789#64 = 0xFC7919286680F900#64 ∧ lcgIter 8 123456789#64 = 0xE3556946B98ED75D#64

/-! ### Range mapping -/

/-- R122: RINT's check, its one word, its result and placement; BLOCKS ≠ 0 is illegal; corner cases and example. -/
def Obligations.RintMapsWordIntoRange : Prop :=
  (∀ (l : Nat) (s : State) (low high : Int),
    (s.OPA.extractLsb' 0 64).toInt = low → (s.OPB.extractLsb' 0 64).toInt = high →
    (low ≤ high →
      exec (.rint l) s = .next (s.answered (lcgIter l s.STATE)
        (okResponse ((BitVec.ofInt 64 (low + ((lcgIter l s.STATE).toNat : Int) % (high - low + 1))).signExtend 4608)
          0)) ∧
      0 ≤ ((lcgIter l s.STATE).toNat : Int) % (high - low + 1) ∧
      ((lcgIter l s.STATE).toNat : Int) % (high - low + 1) < high - low + 1) ∧
    (high < low → exec (.rint l) s = .next (s.answered s.STATE (errorResponse .invalidRange))) ∧
    (low = high →
      exec (.rint l) s = .next (s.answered (lcgIter l s.STATE)
        (okResponse ((BitVec.ofInt 64 low).signExtend 4608) 0))) ∧
    (low = -2 ^ 63 → high = 2 ^ 63 - 1 →
      exec (.rint l) s = .next (s.answered (lcgIter l s.STATE)
        (okResponse ((BitVec.ofInt 64 (low + ((lcgIter l s.STATE).toNat : Int))).signExtend 4608) 0)))) ∧
  (∀ st : GenWord, lcgIter 0 st = st) ∧
  (∀ s : State, s.Presents → s.CMD &&& 0xFFFF00FF#32 = 0x00000003#32 →
    step s = thenHost (exec (.rint (s.CMD.extractLsb' 8 8).toNat) s)) ∧
  (∀ s : State, s.Presents → s.CMD.extractLsb' 0 4 = 3 → s.CMD.extractLsb' 16 4 ≠ 0 →
    step s = .next (hostAdvance (s.answered s.STATE (errorResponse .illegalCmd)))) ∧
  (∀ s : State, s.STATE = 123456789 → s.OPA.extractLsb' 0 64 = BitVec.ofInt 64 (-5) → s.OPB.extractLsb' 0 64 = 5 →
    exec (.rint 8) s = .next (s.answered 16381114972111820637#64 (okResponse (BitVec.ofInt 4608 (-2)) 0)))

/-- R124: a valid RINT's result, read from COEF as a signed number, lies in the range and is low + (v mod span). -/
def Obligations.RintResultInRange : Prop :=
  ∀ (l : Nat) (s : State) (low high : Int),
    (s.OPA.extractLsb' 0 64).toInt = low → (s.OPB.extractLsb' 0 64).toInt = high → low ≤ high →
    ∃ r : Response, exec (.rint l) s = .next (s.answered (lcgIter l s.STATE) r) ∧ r.STATUS = 0 ∧ r.EXP = 0 ∧
      r.COEF.toInt = low + ((lcgIter l s.STATE).toNat : Int) % (high - low + 1) ∧
      low ≤ r.COEF.toInt ∧ r.COEF.toInt ≤ high

/-- R120: span is exact, from 1 to 2^64 for RINT's bounds and from 1 to 2^P_BIG_W for RBIG's. -/
def Obligations.SpanIsExact : Prop :=
  (∀ a b : OperandBus, rintBound a ≤ rintBound b →
    span (rintBound a) (rintBound b) = rintBound b - rintBound a + 1 ∧
    1 ≤ span (rintBound a) (rintBound b) ∧ span (rintBound a) (rintBound b) ≤ 2 ^ 64) ∧
  (∀ (p : Params) (opW : Nat) (a b : BitVec opW), 64 ≤ p.bigW → rbigBound p a ≤ rbigBound p b →
    span (rbigBound p a) (rbigBound p b) = rbigBound p b - rbigBound p a + 1 ∧
    1 ≤ span (rbigBound p a) (rbigBound p b) ∧ span (rbigBound p a) (rbigBound p b) ≤ 2 ^ p.bigW)

/-- R123: with low = high RINT answers low whatever STATE is, and still draws its word. -/
def Obligations.RintDegenerateRange : Prop :=
  ∀ (l : Nat) (s : State), s.OPA.extractLsb' 0 64 = s.OPB.extractLsb' 0 64 →
    ∃ r : Response, exec (.rint l) s = .next (s.answered (lcgIter l s.STATE) r) ∧ r.STATUS = 0 ∧ r.EXP = 0 ∧
      r.COEF.toInt = (s.OPA.extractLsb' 0 64).toInt

/-- R125: `gen_val` is the sum with the first word most significant, is below 2^(64 B), and advances STATE by B x L. -/
def Obligations.BlocksConcatenateFirstWordHighest : Prop :=
  ∀ (b l : Nat) (s : State),
    genVal b l s =
      (∑ i ∈ Finset.range b, (lcgIter ((i + 1) * l) s.STATE).toNat * 2 ^ (64 * (b - 1 - i)),
        s.setSTATE (lcgIter (b * l) s.STATE)) ∧
    (genVal b l s).1 < 2 ^ (64 * b)

/-- R126: RBIG's two checks in their order, its B words, its result and placement; corner cases and example. -/
def Obligations.RbigMapsWordsIntoRange : Prop :=
  (∀ (b l : Nat) (s : State) (low high : Int),
    (s.OPA.extractLsb' 0 512).toInt = low → (s.OPB.extractLsb' 0 512).toInt = high →
    (b = 0 → exec (.rbig b l) s = .next (s.answered s.STATE (errorResponse .invalidBlocks))) ∧
    (b ≠ 0 → high < low → exec (.rbig b l) s = .next (s.answered s.STATE (errorResponse .invalidRange))) ∧
    (b ≠ 0 → low ≤ high →
      exec (.rbig b l) s = .next (s.answered (lcgIter (b * l) s.STATE)
        (okResponse ((BitVec.ofInt 512 (low + (blockValue b l s.STATE : Int) % (high - low + 1))).signExtend 4608)
          0))) ∧
    (b ≠ 0 → low = high →
      exec (.rbig b l) s = .next (s.answered (lcgIter (b * l) s.STATE)
        (okResponse ((BitVec.ofInt 512 low).signExtend 4608) 0))) ∧
    (b ≠ 0 → b ≤ 8 → low = -2 ^ 511 → high = 2 ^ 511 - 1 →
      exec (.rbig b l) s = .next (s.answered (lcgIter (b * l) s.STATE)
        (okResponse ((BitVec.ofInt 512 (low + (blockValue b l s.STATE : Int))).signExtend 4608) 0))) ∧
    (b ≠ 0 → 2 ^ (64 * b) < high - low + 1 →
      exec (.rbig b l) s = .next (s.answered (lcgIter (b * l) s.STATE)
        (okResponse ((BitVec.ofInt 512 (low + (blockValue b l s.STATE : Int))).signExtend 4608) 0)))) ∧
  (∀ (b : Nat) (st : GenWord), blockValue b 0 st = ∑ i ∈ Finset.range b, st.toNat * 2 ^ (64 * i)) ∧
  (∀ s : State, s.Presents → s.CMD &&& 0xFFF000FF#32 = 0x00000004#32 →
    step s = thenHost (exec (.rbig (s.CMD.extractLsb' 16 4).toNat (s.CMD.extractLsb' 8 8).toNat) s)) ∧
  (∀ s : State, s.STATE = 123456789 → s.OPA.extractLsb' 0 512 = 0 → s.OPB.extractLsb' 0 512 = BitVec.ofNat 512 (2 ^ 128 - 1) →
    exec (.rbig 2 8) s = .next (s.answered 0x8B365DC737DE52A5#64
      (okResponse (BitVec.ofNat 4608 0xE3556946B98ED75D8B365DC737DE52A5) 0)))

/-- R128 for every realisation D9 allows (that its buses hold the operands and the result is log entry 3): RBIG's result,
read from COEF as a signed number, lies in the range. -/
def Obligations.RbigResultInRange : Prop :=
  ∀ (p : Params) (b l : Nat) (s : StateFor p) (low high : Int), p.Valid →
    (s.OPA.extractLsb' 0 p.bigW).toInt = low → (s.OPB.extractLsb' 0 p.bigW).toInt = high → b ≠ 0 → low ≤ high →
    ∃ r : Sized.Response p.resCoefW p.resExpW,
      execWith p (.rbig b l) s = .next (s.answered (lcgIter (b * l) s.STATE) r) ∧
      r.STATUS = 0 ∧ r.EXP = 0 ∧
      r.COEF.toInt = low + (blockValue b l s.STATE : Int) % (high - low + 1) ∧
      low ≤ r.COEF.toInt ∧ r.COEF.toInt ≤ high

/-- R127: when span exceeds 2^(64 B) the result is low + val, never above low + 2^(64 B) - 1, and the status is OK. -/
def Obligations.UndersizedBlocksStayLow : Prop :=
  ∀ (b l : Nat) (s : State) (low high : Int),
    (s.OPA.extractLsb' 0 512).toInt = low → (s.OPB.extractLsb' 0 512).toInt = high → b ≠ 0 →
    2 ^ (64 * b) < high - low + 1 →
    ∃ r : Response, exec (.rbig b l) s = .next (s.answered (lcgIter (b * l) s.STATE) r) ∧ r.STATUS = 0 ∧
      r.COEF.toInt = low + (blockValue b l s.STATE : Int) ∧
      low ≤ r.COEF.toInt ∧ r.COEF.toInt ≤ low + 2 ^ (64 * b) - 1

/-- R129: over N raw values each element of the range is hit floor(N / span) or floor(N / span) + 1 times, and exactly
N / span times when span divides N. -/
def Obligations.RangeMappingIsNearlyUniform : Prop :=
  ∀ (low high x : Int) (n : Nat), low ≤ x → x ≤ high →
    ((((Finset.range n).filter fun v => mapIntoRange low high v = x).card : Int) = (n : Int) / (high - low + 1) ∨
      (((Finset.range n).filter fun v => mapIntoRange low high v = x).card : Int) = (n : Int) / (high - low + 1) + 1) ∧
    ((high - low + 1) ∣ (n : Int) →
      (((Finset.range n).filter fun v => mapIntoRange low high v = x).card : Int) = (n : Int) / (high - low + 1))

/-- R130: RINT with L and RBIG with B = 1 and L on the same bounds from the same STATE leave the same STATE and answer
the same. -/
def Obligations.RintIsRbigOfOneBlock : Prop :=
  ∀ (l : Nat) (s s' : State), s.STATE = s'.STATE →
    (s.OPA.extractLsb' 0 64).toInt = (s'.OPA.extractLsb' 0 512).toInt →
    (s.OPB.extractLsb' 0 64).toInt = (s'.OPB.extractLsb' 0 512).toInt →
    ∃ (st : GenWord) (r : Response),
      exec (.rint l) s = .next (s.answered st r) ∧ exec (.rbig 1 l) s' = .next (s'.answered st r)

/-! ### Precision scaling -/

/-- R151: the aligned coefficients M and X carry the bounds' values at the common exponent e, X < M exactly when max_val is
below min_val, and then the command ends with INVALID_RANGE having taken no step. -/
def Obligations.AlignedBoundsCompareAsValues : Prop :=
  ∀ (b l : Nat) (s : State) (lo hi : Dec) (e : Int), decOn s.OPA = lo → decOn s.OPB = hi → commonExp lo hi = e →
    e = min lo.exp hi.exp ∧ -128 ≤ e ∧ e ≤ 127 ∧
    lo.value = (alignedCoef e lo : ℚ) * 10 ^ e ∧ hi.value = (alignedCoef e hi : ℚ) * 10 ^ e ∧
    (alignedCoef e hi < alignedCoef e lo ↔ hi.value < lo.value) ∧
    (b ≠ 0 → alignedCoef e hi < alignedCoef e lo →
      exec (.rfrac b l) s = .next (s.answered s.STATE (errorResponse .invalidRange)))

/-- R155: RFRAC's two checks in their order, its B words, the pair (N, e - n) it answers; corner cases and example. -/
def Obligations.RfracScalesExactly : Prop :=
  (∀ (b l : Nat) (s : State) (lo hi : Dec), decOn s.OPA = lo → decOn s.OPB = hi →
    (b = 0 → exec (.rfrac b l) s = .next (s.answered s.STATE (errorResponse .invalidBlocks))) ∧
    (b ≠ 0 → hi.value < lo.value → exec (.rfrac b l) s = .next (s.answered s.STATE (errorResponse .invalidRange))) ∧
    (b ≠ 0 → lo.value ≤ hi.value →
      exec (.rfrac b l) s = .next (s.answered (lcgIter (b * l) s.STATE)
        (okResponse (BitVec.ofInt 4608 (scaledCoef b lo hi (blockValue b l s.STATE)))
          (BitVec.ofInt 16 (scaledExp b lo hi)))))) ∧
  (∀ (b l : Nat) (s t : State) (r : Response), b ≤ 15 → exec (.rfrac b l) s = .next t →
    t.responses = s.responses ++ [r] → r.STATUS = 0 →
    (blockValue b l s.STATE = 0 → r.value = (decOn s.OPA).value) ∧
    (blockValue b l s.STATE = 2 ^ (64 * b) - 1 →
      r.value = (decOn s.OPB).value - ((decOn s.OPB).value - (decOn s.OPA).value) / 2 ^ (64 * b)) ∧
    ((decOn s.OPA).value < (decOn s.OPB).value → r.value ≠ (decOn s.OPB).value) ∧
    ((decOn s.OPA).value = (decOn s.OPB).value → r.value = (decOn s.OPA).value)) ∧
  (∀ (b : Nat) (st : GenWord), blockValue b 0 st = ∑ i ∈ Finset.range b, st.toNat * 2 ^ (64 * i)) ∧
  (∀ s : State, s.Presents → s.CMD &&& 0xFFF000FF#32 = 0x00000005#32 →
    step s = thenHost (exec (.rfrac (s.CMD.extractLsb' 16 4).toNat (s.CMD.extractLsb' 8 8).toNat) s)) ∧
  (∀ s : State, s.STATE = 123456789 → decOn s.OPA = { coef := 0, exp := 0 } → decOn s.OPB = { coef := 1, exp := 0 } →
    exec (.rfrac 1 8) s = .next (s.answered 16381114972111820637#64
      (okResponse (BitVec.ofNat 4608 8880220220249229657227992007495487314372439868748188018798828125)
        (BitVec.ofInt 16 (-64)))))

/-- The value RFRAC answers is exactly min + (max - min) * val / 2^(64 B), with 0 ≤ val / 2^(64 B) ≤ 1 - 2^-(64 B), in every
realisation D10 allows (ListedRfracValueIsExact states it of the listed block alone). This rests on the model's own layout of such a realisation, log entry 3
(DEDUCED): the exponent stands at bits P_DEC_COEF_W and up of its bus, and the buses hold operands and result. -/
def Obligations.RfracValueIsExact : Prop :=
  ∀ (p : Params) (b l : Nat) (s : StateFor p) (lo hi : Dec), p.Valid →
    { coef := (s.OPA.extractLsb' 0 p.decCoefW).toInt, exp := (s.OPA.extractLsb' p.decCoefW p.decExpW).toInt } = lo →
    { coef := (s.OPB.extractLsb' 0 p.decCoefW).toInt, exp := (s.OPB.extractLsb' p.decCoefW p.decExpW).toInt } = hi →
    b ≠ 0 → b ≤ 15 → lo.value ≤ hi.value →
    ∃ (r : Sized.Response p.resCoefW p.resExpW) (frac : ℚ),
      execWith p (.rfrac b l) s = .next (s.answered (lcgIter (b * l) s.STATE) r) ∧
      r.STATUS = 0 ∧ frac = (blockValue b l s.STATE : ℚ) / 2 ^ (64 * b) ∧ 0 ≤ frac ∧ frac ≤ 1 - 1 / 2 ^ (64 * b) ∧
      r.value = lo.value + (hi.value - lo.value) * frac

/-- R157: a valid RFRAC's value lies in [min_val, max_val], and below max_val when the bounds differ. -/
def Obligations.RfracValueInRange : Prop :=
  ∀ (b l : Nat) (s : State), b ≠ 0 → b ≤ 15 → (decOn s.OPA).value ≤ (decOn s.OPB).value →
    ∃ r : Response, exec (.rfrac b l) s = .next (s.answered (lcgIter (b * l) s.STATE) r) ∧ r.STATUS = 0 ∧
      (decOn s.OPA).value ≤ r.value ∧ r.value ≤ (decOn s.OPB).value ∧
      ((decOn s.OPA).value < (decOn s.OPB).value → r.value < (decOn s.OPB).value)

/-- R158: equal bounds give min_val whatever STATE is, as the pair (M x 10^n, e - n), and the words are still drawn. -/
def Obligations.RfracDegenerateRange : Prop :=
  ∀ (b l : Nat) (s : State), b ≠ 0 → b ≤ 15 → (decOn s.OPA).value = (decOn s.OPB).value →
    ∃ r : Response, exec (.rfrac b l) s = .next (s.answered (lcgIter (b * l) s.STATE) r) ∧ r.STATUS = 0 ∧
      r.COEF.toInt = alignTo (decOn s.OPA) (decOn s.OPB) * 10 ^ (64 * b) ∧
      r.EXP.toInt = min (decOn s.OPA).exp (decOn s.OPB).exp - 64 * (b : Int) ∧
      r.value = (decOn s.OPA).value

/-- R159: no RFRAC result overflows the result bus: COEF and EXP read back as the exact integers N and e - n, within
the bounds the rule derives; and so in every realisation whose bus meets the rule's two inequalities (its operand layout is
log entry 3). -/
def Obligations.RfracResultFitsBus : Prop :=
  (∀ (p : Params) (b l : Nat) (s : StateFor p), p.Valid → b ≠ 0 → b ≤ 15 →
    (decAt p s.OPA).value ≤ (decAt p s.OPB).value →
    ∃ r : Sized.Response p.resCoefW p.resExpW,
      execWith p (.rfrac b l) s = .next (s.answered (lcgIter (b * l) s.STATE) r) ∧
      r.COEF.toInt = scaledCoef b (decAt p s.OPA) (decAt p s.OPB) (blockValue b l s.STATE) ∧
      r.EXP.toInt = scaledExp b (decAt p s.OPA) (decAt p s.OPB)) ∧
  ∀ (b l : Nat) (s : State), b ≠ 0 → b ≤ 15 → (decOn s.OPA).value ≤ (decOn s.OPB).value →
    ∃ r : Response, exec (.rfrac b l) s = .next (s.answered (lcgIter (b * l) s.STATE) r) ∧
      r.COEF.toInt = scaledCoef b (decOn s.OPA) (decOn s.OPB) (blockValue b l s.STATE) ∧
      r.EXP.toInt = scaledExp b (decOn s.OPA) (decOn s.OPB) ∧
      r.COEF.toInt.natAbs ≤ 2 ^ 511 * 10 ^ (255 + 64 * b) ∧ -1088 ≤ r.EXP.toInt ∧ r.EXP.toInt ≤ 63

/-- R161: between 0 and 1 the answer's digits are those of val * 5^n, at most n of them after the point. -/
def Obligations.RfracUnitRangeDigits : Prop :=
  ∀ (b l : Nat) (s : State), b ≠ 0 → b ≤ 15 → decOn s.OPA = { coef := 0, exp := 0 } →
    decOn s.OPB = { coef := 1, exp := 0 } →
    ∃ r : Response, exec (.rfrac b l) s = .next (s.answered (lcgIter (b * l) s.STATE) r) ∧
      r.COEF.toInt = (blockValue b l s.STATE * 5 ^ (64 * b) : Nat) ∧ r.EXP.toInt = -(64 * (b : Int)) ∧
      blockValue b l s.STATE * 5 ^ (64 * b) < 10 ^ (64 * b)

/-! ### Operand and result buses -/

/-- R66: what each command reads, and that no other bit of the buses changes the response or STATE. -/
def Obligations.UnreadOperandBitsIgnored : Prop :=
  (∀ bus : OperandBus,
    seedOperand bus = bus.extractLsb' 0 64 ∧
    rintBound bus = (bus.extractLsb' 0 64).toInt ∧
    rbigBound Params.listed bus = (bus.extractLsb' 0 512).toInt ∧
    rfracBound Params.listed bus =
      { coef := (bus.extractLsb' 0 512).toInt, exp := (bus.extractLsb' 512 8).toInt }) ∧
  (∀ (i : Instr) (s t : State) (a b : OperandBus),
    a.extractLsb' 0 i.readsOPA = s.OPA.extractLsb' 0 i.readsOPA →
    b.extractLsb' 0 i.readsOPB = s.OPB.extractLsb' 0 i.readsOPB →
    exec i s = .next t → exec i (s.withOperands a b) = .next (t.withOperands a b))

/-- R70: the layout of the 4624-bit result bus, and the value it carries. -/
def Obligations.ResultBusLayout : Prop :=
  ∀ r : Response,
    r.RES.extractLsb' 0 4608 = r.COEF ∧ r.RES.extractLsb' 4608 16 = r.EXP ∧
    r.value = ((r.RES.extractLsb' 0 4608).toInt : ℚ) * 10 ^ (r.RES.extractLsb' 4608 16).toInt

/-! ### Errors -/

/-- R73, both ways: the words listed, and only they, end with ILLEGAL_CMD, STATE unchanged. -/
def Obligations.IllegalWordsExactly : Prop :=
  ∀ s : State, s.Presents →
    ((s.CMD.extractLsb' 0 4 = 0 ∨ 6 ≤ (s.CMD.extractLsb' 0 4).toNat ∨
        s.CMD.extractLsb' 4 4 ≠ 0 ∨ s.CMD.extractLsb' 20 12 ≠ 0 ∨
        (s.CMD.extractLsb' 0 4 = 1 ∧ (s.CMD.extractLsb' 8 8 ≠ 0 ∨ s.CMD.extractLsb' 16 4 ≠ 0)) ∨
        ((s.CMD.extractLsb' 0 4 = 2 ∨ s.CMD.extractLsb' 0 4 = 3) ∧ s.CMD.extractLsb' 16 4 ≠ 0)) ↔
      step s = .next (hostAdvance (s.answered s.STATE (errorResponse .illegalCmd))))

/-- R207: RBIG and RFRAC with B = 0 end with INVALID_BLOCKS. -/
def Obligations.ZeroBlocksAreInvalid : Prop :=
  ∀ (s : State) (l : Nat), s.Presents →
    decode s.CMD = .legal (.rbig 0 l) ∨ decode s.CMD = .legal (.rfrac 0 l) →
    step s = .next (hostAdvance (s.answered s.STATE (errorResponse .invalidBlocks)))

/-- R208: INVALID_RANGE exactly when the upper bound's value is below the lower's; equal bounds are valid. -/
def Obligations.ReversedBoundsAreInvalid : Prop :=
  (∀ (l : Nat) (s : State),
    exec (.rint l) s = .next (s.answered s.STATE (errorResponse .invalidRange)) ↔
      (s.OPB.extractLsb' 0 64).toInt < (s.OPA.extractLsb' 0 64).toInt) ∧
  (∀ (b l : Nat) (s : State), b ≠ 0 →
    (exec (.rbig b l) s = .next (s.answered s.STATE (errorResponse .invalidRange)) ↔
      (s.OPB.extractLsb' 0 512).toInt < (s.OPA.extractLsb' 0 512).toInt)) ∧
  (∀ (b l : Nat) (s : State), b ≠ 0 →
    (exec (.rfrac b l) s = .next (s.answered s.STATE (errorResponse .invalidRange)) ↔
      (decOn s.OPB).value < (decOn s.OPA).value))

/-- R204: the first of ILLEGAL_CMD, INVALID_BLOCKS and INVALID_RANGE that applies is the one status reported. -/
def Obligations.StatusFollowsCheckOrder : Prop :=
  ∀ s : State, s.Presents →
    ∃ (t : State) (r : Response), step s = .next t ∧ t.responses = s.responses ++ [r] ∧
      (∀ why, decode s.CMD = .illegal why → r.STATUS = 1) ∧
      (decode s.CMD = .legal .seed → r.STATUS = 0) ∧
      (∀ l, decode s.CMD = .legal (.raw l) → r.STATUS = 0) ∧
      (∀ l, decode s.CMD = .legal (.rint l) →
        r.STATUS = if (s.OPB.extractLsb' 0 64).toInt < (s.OPA.extractLsb' 0 64).toInt then 3 else 0) ∧
      (∀ b l, decode s.CMD = .legal (.rbig b l) →
        r.STATUS = if b = 0 then 2
          else if (s.OPB.extractLsb' 0 512).toInt < (s.OPA.extractLsb' 0 512).toInt then 3 else 0) ∧
      (∀ b l, decode s.CMD = .legal (.rfrac b l) →
        r.STATUS = if b = 0 then 2 else if (decOn s.OPB).value < (decOn s.OPA).value then 3 else 0)

/-- R209: whatever the error, the step changes nothing but the host's side, and the response carries zeros. -/
def Obligations.ErrorsHaveNoEffect : Prop :=
  ∀ (s t : State) (r : Response), s.Presents → step s = .next t → t.responses = s.responses ++ [r] → r.STATUS ≠ 0 →
    t = hostAdvance (s.answered s.STATE { STATUS := r.STATUS, COEF := 0, EXP := 0 })

/-- R247: a command that ended with an error, presented again, ends with the same error, STATE still unchanged. -/
def Obligations.ErrorRepeatsUnchanged : Prop :=
  ∀ (s t u : State) (r : Response) (rest : List Ports), s.Presents → s.host = s.ports :: rest →
    step s = .next t → t.responses = s.responses ++ [r] → r.STATUS ≠ 0 → step t = .next u →
    t.ports = s.ports ∧ u.STATE = s.STATE ∧ u.responses = s.responses ++ [r, r]

/-! ### The step -/

/-- R19: the step is total, and so is every instruction, in every realisation. -/
def Obligations.EveryStepAnswers : Prop :=
  (∀ s : State, s.Safe) ∧ (∀ (i : Instr) (s : State), ∃ t, exec i s = .next t) ∧
  (∀ (p : Params) (s : StateFor p), ∃ t, stepWith p s = .next t)

/-- A presented word that decodes is executed, and then the host goes on; a word that does not is ILLEGAL_CMD; placing the
word of a well-formed instruction makes the next step run exactly it. -/
def Obligations.StepRunsDecodedInstruction : Prop :=
  (∀ (s : State) (i : Instr), s.Presents → decode s.CMD = .legal i → step s = thenHost (exec i s)) ∧
  (∀ (s : State) (why : IllegalWord), s.Presents → decode s.CMD = .illegal why →
    step s = .next (hostAdvance (raise .illegalCmd s))) ∧
  (∀ (s : State) (i : Instr), i.wellFormed = true →
    decodeTableWord 32 (encode i).toNat = some i ∧
    step (s.withFetchWord 32 (encode i).toNat) = thenHost (exec i (s.withFetchWord 32 (encode i).toNat)))

/-- The frame of every instruction: the ports and the host's list are as before, exactly one response is appended, and
STATE is written only when the response is OK. -/
def Obligations.InstructionFrame : Prop :=
  ∀ (i : Instr) (s t : State), exec i s = .next t →
    t.ports = s.ports ∧ t.host = s.host ∧
    ∃ r : Response, t.responses = s.responses ++ [r] ∧ (r.STATUS ≠ 0 → t.STATE = s.STATE)

/-- R22: STATE changes only by reset, by SEED, or by the transitions of a generating command that completes, of which
there are as many as R251 counts. -/
def Obligations.OnlyListedWritersChangeState : Prop :=
  ∀ s t : State, step s = .next t → t.STATE ≠ s.STATE →
    (s.ports.RESET = true ∧ t.STATE = 123456789#64) ∨
    (s.Presents ∧ decode s.CMD = .legal .seed ∧ t.STATE = s.OPA.extractLsb' 0 64) ∨
    (s.Presents ∧ ∃ (i : Instr) (r : Response), decode s.CMD = .legal i ∧ i ≠ .seed ∧
      t.STATE = lcgIter i.transitions s.STATE ∧ t.responses = s.responses ++ [r] ∧ r.STATUS = 0)

/-- With no command presented and no reset the block does not act: STATE and the responses stay. How the model lets such a
step pass is its own choice (log entry 1). -/
def Obligations.BlockWaitsForCommand : Prop :=
  ∀ s : State, s.ports.RESET = false → s.ports.request = false →
    ∃ t, step s = .next t ∧ t.STATE = s.STATE ∧ t.responses = s.responses ∧ t.host = s.host.tail

/-- R19, R205: the step computes the function `answer` of STATE, command word and operand buses, and nothing else of the
state enters it; and so in every realisation, with `answerWith` (its layout is log entry 3). -/
def Obligations.StepComputesBlockFunction : Prop :=
  (∀ s : State, s.Presents →
    step s = .next (hostAdvance
      (s.answered (answer s.STATE s.ports.command).1 (answer s.STATE s.ports.command).2))) ∧
  (∀ (p : Params) (s : StateFor p), s.Presents →
    stepWith p s = .next (hostAdvance
      (s.answered (answerWith p s.STATE s.ports.command).1 (answerWith p s.STATE s.ports.command).2)))

/-- R49, R253: running the host's whole list from any state gives the final STATE and the responses, in order, that the
block function gives command by command, in the listed block and in every realisation (its layout is log entry 3). -/
def Obligations.RunDeliversObservedResponses : Prop :=
  (∀ s : State, ∃ t : State, Host.Core.run Sys2Proof.core (s.host.length + 1) s = .next t ∧
    t.STATE = (observeListed s.STATE (s.ports :: s.host)).1 ∧
    t.responses = s.responses ++ (observeListed s.STATE (s.ports :: s.host)).2 ∧ t.host = []) ∧
  (∀ (p : Params) (s : StateFor p), ∃ t : StateFor p,
    Host.Core.run (coreWith p) (s.host.length + 1) s = .next t ∧
    t.STATE = (observe p s.STATE (s.ports :: s.host)).1 ∧
    t.responses = s.responses ++ (observe p s.STATE (s.ports :: s.host)).2 ∧ t.host = [])

/-- Every step keeps every delivered response lawful: one of the four statuses (R201), zeros with an error (R209), a
result within the widths of R159. -/
def Obligations.StepKeepsResponsesLawful : Prop :=
  ∀ s t : State, s.ResponsesLawful → step s = .next t → t.ResponsesLawful

/-- The reset state meets the invariant. -/
def Obligations.ResetResponsesLawful : Prop := State.reset.ResponsesLawful

/-! ### Reset and copies of the block -/

/-- R242: after reset STATE = 123456789. -/
def Obligations.ResetLoadsDefaultSeed : Prop :=
  Sys2Proof.core.reset = State.reset ∧ State.reset.STATE = 123456789#64

/-- R240, R241: at power-on and with RESET asserted STATE takes the reset value; no command is then performed or answered,
whatever is presented, and what the host presents next sees the reset value. -/
def Obligations.ResetAbandonsCommand : Prop :=
  State.reset.STATE = 123456789#64 ∧
  ∀ s : State, s.ports.RESET = true →
    step s = .next (hostAdvance (s.setSTATE 0x00000000075BCD15#64)) ∧
    (∀ (p : Ports) (rest : List Ports), s.host = p :: rest →
      ∃ t, step s = .next t ∧ t.STATE = 123456789#64 ∧ t.ports = p ∧ t.host = rest ∧ t.responses = s.responses)

/-- R243: reset and SEED 123456789 leave the same STATE; the reset answers nothing, SEED answers once. -/
def Obligations.ResetEqualsDefaultSeedCommand : Prop :=
  ∀ s s' : State, s.ports.RESET = true → s'.Presents → s'.CMD = 0x00000001#32 →
    s'.OPA.extractLsb' 0 64 = 123456789#64 →
    ∃ t t' : State, step s = .next t ∧ step s' = .next t' ∧ t.STATE = t'.STATE ∧ t.responses = s.responses ∧
      t'.responses = s'.responses ++ [okResponse 0 0]

/-- R24: each block has its own STATE. A step of one block neither reads nor writes another: the others stay as they are,
and the one that steps ends as it would alone (the list of blocks is the model's; log entry 9). -/
def Obligations.CopiesAreIndependent : Prop :=
  ∀ (k : Nat) (sys sys' : System) (s : State), sys[k]? = some s → System.stepAt k sys = .next sys' →
    (∀ j, j ≠ k → sys'[j]? = sys[j]?) ∧ sys'.length = sys.length ∧
    ∃ t, step s = .next t ∧ sys'[k]? = some t

/-! ### The assembler -/

/-- R81 to R85: every line whose operands fit assembles to a command from which the block reads the operands back. For the
listed parameters the bits are R81's to R85's; for others this rests on the model's own layout, log entry 3 (DEDUCED): the
exponent stands at bits P_DEC_COEF_W and up of its bus. The zeros in OPA above SEED's operand are R81's. -/
def Obligations.AssembledOperandsReadBack : Prop :=
  ∀ p : Params, p.Valid →
    (∀ sd : Nat, ∃ c : Sized.Command p.opW, assembleLine p (.seed (some (sd : Int))) = .ok c ∧
      decode c.CMD = .legal .seed ∧ (seedOperand c.OPA).toNat = sd % 2 ^ 64 ∧ c.OPA.toNat = sd % 2 ^ 64) ∧
    (∀ l : Nat, l < 256 → ∃ c : Sized.Command p.opW, assembleLine p (.raw (some (l : Int))) = .ok c ∧
      decode c.CMD = .legal (.raw l)) ∧
    (∀ (low high : Int) (l : Nat), -2 ^ 63 ≤ low → low < 2 ^ 63 → -2 ^ 63 ≤ high → high < 2 ^ 63 → l < 256 →
      ∃ c : Sized.Command p.opW, assembleLine p (.rint low high (some (l : Int))) = .ok c ∧
        decode c.CMD = .legal (.rint l) ∧ rintBound c.OPA = low ∧ rintBound c.OPB = high) ∧
    (∀ (low high : Int) (b l : Nat), -2 ^ (p.bigW - 1) ≤ low → low < 2 ^ (p.bigW - 1) →
      -2 ^ (p.bigW - 1) ≤ high → high < 2 ^ (p.bigW - 1) → b < 16 → l < 256 →
      ∃ c : Sized.Command p.opW, assembleLine p (.rbig low high (some (b : Int)) (some (l : Int))) = .ok c ∧
        decode c.CMD = .legal (.rbig b l) ∧ rbigBound p c.OPA = low ∧ rbigBound p c.OPB = high) ∧
    (∀ (lo hi : Dec) (b l : Nat), fitsDec p lo = true → fitsDec p hi = true → b < 16 → l < 256 →
      ∃ c : Sized.Command p.opW, assembleLine p (.rfrac lo hi (some (b : Int)) (some (l : Int))) = .ok c ∧
        decode c.CMD = .legal (.rfrac b l) ∧ rfracBound p c.OPA = lo ∧ rfracBound p c.OPB = hi)

/-- R81 to R86: an operand that does not fit the field it goes to is rejected, never rounded: a negative seed, a layer count
outside 0 to 255 and a block count outside 0 to 15 in every command that takes one, and a bound outside its field. The name
`doesNotFit` of the rejection is the model's (log entry 4). -/
def Obligations.AssemblerRejectsMisfits : Prop :=
  (∀ sd : Int, sd < 0 → assembleLine Params.listed (.seed (some sd)) = .error .doesNotFit) ∧
  (∀ l : Int, (l < 0 ∨ 256 ≤ l) →
    assembleLine Params.listed (.raw (some l)) = .error .doesNotFit ∧
    (∀ low high : Int, assembleLine Params.listed (.rint low high (some l)) = .error .doesNotFit) ∧
    (∀ (low high : Int) (b : Option Int),
      assembleLine Params.listed (.rbig low high b (some l)) = .error .doesNotFit) ∧
    (∀ (lo hi : Dec) (b : Option Int),
      assembleLine Params.listed (.rfrac lo hi b (some l)) = .error .doesNotFit)) ∧
  (∀ b : Int, (b < 0 ∨ 16 ≤ b) →
    (∀ (low high : Int) (l : Option Int),
      assembleLine Params.listed (.rbig low high (some b) l) = .error .doesNotFit) ∧
    (∀ (lo hi : Dec) (l : Option Int),
      assembleLine Params.listed (.rfrac lo hi (some b) l) = .error .doesNotFit)) ∧
  (∀ (low high : Int) (l : Option Int), (low < -2 ^ 63 ∨ 2 ^ 63 ≤ low ∨ high < -2 ^ 63 ∨ 2 ^ 63 ≤ high) →
    assembleLine Params.listed (.rint low high l) = .error .doesNotFit) ∧
  (∀ (low high : Int) (b l : Option Int), (low < -2 ^ 511 ∨ 2 ^ 511 ≤ low ∨ high < -2 ^ 511 ∨ 2 ^ 511 ≤ high) →
    assembleLine Params.listed (.rbig low high b l) = .error .doesNotFit) ∧
  (∀ (lo hi : Dec) (b l : Option Int), (lo.coef < -2 ^ 511 ∨ 2 ^ 511 ≤ lo.coef ∨ lo.exp < -128 ∨ 128 ≤ lo.exp) →
    assembleLine Params.listed (.rfrac lo hi b l) = .error .doesNotFit ∧
    assembleLine Params.listed (.rfrac hi lo b l) = .error .doesNotFit)

/-- R80, R87: the pseudo-instructions and the defaults of omitted trailing operands, of L alone and of B and L. -/
def Obligations.PseudoInstructionsExpand : Prop :=
  (∀ ops : List (List Char), parseCommand "NEW".toList ops = parseCommand "SEED".toList ops) ∧
  parseCommand "PEEK".toList [] = .ok (.raw (some 0)) ∧
  (∀ p : Params,
    assembleLine p (.seed none) = assembleLine p (.seed (some 123456789)) ∧
    assembleLine p (.raw none) = assembleLine p (.raw (some 8)) ∧
    (∀ low high : Int,
      assembleLine p (.rint low high none) = assembleLine p (.rint low high (some 8)) ∧
      assembleLine p (.rbig low high none none) = assembleLine p (.rbig low high (some 4) (some 8)) ∧
      (∀ b : Int, assembleLine p (.rbig low high (some b) none) = assembleLine p (.rbig low high (some b) (some 8)))) ∧
    (∀ lo hi : Dec,
      assembleLine p (.rfrac lo hi none none) = assembleLine p (.rfrac lo hi (some 4) (some 8)) ∧
      (∀ b : Int, assembleLine p (.rfrac lo hi (some b) none) = assembleLine p (.rfrac lo hi (some b) (some 8)))))

/-- R88: the worked encodings, from text to bits. The words, SEED's OPA and RINT's buses are the spec's (R81, R83, R88); RBIG's
and RFRAC's operand fields are R84's and R85's. The zeros in both buses of RAW and PEEK, in SEED's OPB, above bit 511 of
RBIG's buses and above bit 519 of RFRAC's are the model's choice (log entry 4). -/
def Obligations.AssemblerWorkedExamples : Prop :=
  assembleText Params.listed "RAW".toList = some (.ok { CMD := 0x00000802, OPA := 0, OPB := 0 }) ∧
  assembleText Params.listed "RAW 1".toList = some (.ok { CMD := 0x00000102, OPA := 0, OPB := 0 }) ∧
  assembleText Params.listed "PEEK".toList = some (.ok { CMD := 0x00000002, OPA := 0, OPB := 0 }) ∧
  assembleText Params.listed "RAW 255".toList = some (.ok { CMD := 0x0000FF02, OPA := 0, OPB := 0 }) ∧
  assembleText Params.listed "RINT -100000, 100000".toList =
    some (.ok { CMD := 0x00000803, OPA := 0xFFFFFFFFFFFE7960, OPB := 0x00000000000186A0 }) ∧
  assembleText Params.listed "RBIG -1e50, 1e50".toList =
    some (.ok { CMD := 0x00040804, OPA := BitVec.ofNat 576 (2 ^ 512 - 10 ^ 50), OPB := BitVec.ofNat 576 (10 ^ 50) }) ∧
  assembleText Params.listed "RFRAC 0, 1".toList = some (.ok { CMD := 0x00040805, OPA := 0, OPB := 1 }) ∧
  assembleText Params.listed "SEED 92345432345698767761".toList =
    some (.ok { CMD := 0x00000001, OPA := 0x018CE1738B3E1391, OPB := 0 })

/-! ### The listed block -/

/-- R152, R153: the value the listed block answers is exactly min_val + (max_val - min_val) * frac, with no rounding, where
frac = val / 2^(64 B) and 0 ≤ frac ≤ 1 - 2^-(64 B) < 1. -/
def Obligations.ListedRfracValueIsExact : Prop :=
  ∀ (b l : Nat) (s : State), b ≠ 0 → b ≤ 15 → (decOn s.OPA).value ≤ (decOn s.OPB).value →
    ∃ (r : Response) (frac : ℚ), exec (.rfrac b l) s = .next (s.answered (lcgIter (b * l) s.STATE) r) ∧
      r.STATUS = 0 ∧ frac = (blockValue b l s.STATE : ℚ) / 2 ^ (64 * b) ∧
      0 ≤ frac ∧ frac ≤ 1 - 1 / 2 ^ (64 * b) ∧ frac < 1 ∧
      r.value = (decOn s.OPA).value + ((decOn s.OPB).value - (decOn s.OPA).value) * frac

/-- The host's machine is the realisation with the listed parameters (R7): same instructions, same step, same reset. -/
def Obligations.ListedMachineIsARealisation : Prop :=
  (∀ (i : Instr) (s : State), exec i s = execWith Params.listed i s) ∧ Sys2Proof.core = coreWith Params.listed
end

