-- ==== Sys2Proof/Laws/Decode.lean ====
section
/-! SUPPORT. The decoder read as arithmetic on the word: for each instruction, exactly which numbers decode to it. -/

namespace Sys2Proof

/-- A field of a word as quotient and remainder (R10). -/
theorem extractField_toNat (w : CmdWord) (lo k : Nat) :
    (w.extractLsb' lo k).toNat = w.toNat / 2 ^ lo % 2 ^ k := by
  simp [BitVec.extractLsb'_toNat, Nat.shiftRight_eq_div_pow]

theorem decode_eq_seed_iff (w : CmdWord) : decode w = .legal .seed ↔ w.toNat = 1 := by
  have hw := w.isLt
  unfold decode unlessBlocks rsv0Field rsv1Field opField layersField blocksField
  simp only [extractField_toNat]
  split_ifs <;> simp <;> omega

theorem decode_eq_raw_iff (w : CmdWord) (l : Nat) :
    decode w = .legal (.raw l) ↔ l < 256 ∧ w.toNat = 2 + l * 256 := by
  have hw := w.isLt
  unfold decode unlessBlocks rsv0Field rsv1Field opField layersField blocksField
  simp only [extractField_toNat]
  split_ifs <;> simp <;> omega

theorem decode_eq_rint_iff (w : CmdWord) (l : Nat) :
    decode w = .legal (.rint l) ↔ l < 256 ∧ w.toNat = 3 + l * 256 := by
  have hw := w.isLt
  unfold decode unlessBlocks rsv0Field rsv1Field opField layersField blocksField
  simp only [extractField_toNat]
  split_ifs <;> simp <;> omega

theorem decode_eq_rbig_iff (w : CmdWord) (b l : Nat) :
    decode w = .legal (.rbig b l) ↔ b < 16 ∧ l < 256 ∧ w.toNat = 4 + l * 256 + b * 65536 := by
  have hw := w.isLt
  unfold decode unlessBlocks rsv0Field rsv1Field opField layersField blocksField
  simp only [extractField_toNat]
  split_ifs <;> simp <;> omega

theorem decode_eq_rfrac_iff (w : CmdWord) (b l : Nat) :
    decode w = .legal (.rfrac b l) ↔ b < 16 ∧ l < 256 ∧ w.toNat = 5 + l * 256 + b * 65536 := by
  have hw := w.isLt
  unfold decode unlessBlocks rsv0Field rsv1Field opField layersField blocksField
  simp only [extractField_toNat]
  split_ifs <;> simp <;> omega

end Sys2Proof
end

