-- ==== Sys2Proof/Laws/State.lean ====
section
/-! SUPPORT. One lemma per field per update of State, so that no proof unfolds a record update. -/

namespace Sys2Proof.Machine

open Sys2Proof

variable {opW coefW expW : Nat} (s : Sized.State opW coefW expW) (v : GenWord) (st e : Status) (c : BitVec coefW)
  (x : BitVec expW) (n w : Nat) (cs : List (Sized.Command opW))

/-! ### setSTATE -/

@[simp] theorem setSTATE_STATE : (s.setSTATE v).STATE = v := rfl
@[simp] theorem setSTATE_ports : (s.setSTATE v).ports = s.ports := rfl
@[simp] theorem setSTATE_host : (s.setSTATE v).host = s.host := rfl
@[simp] theorem setSTATE_responses : (s.setSTATE v).responses = s.responses := rfl
@[simp] theorem setSTATE_CMD : (s.setSTATE v).CMD = s.CMD := rfl
@[simp] theorem setSTATE_OPA : (s.setSTATE v).OPA = s.OPA := rfl
@[simp] theorem setSTATE_OPB : (s.setSTATE v).OPB = s.OPB := rfl
@[simp] theorem setSTATE_self : s.setSTATE s.STATE = s := rfl
@[simp] theorem setSTATE_setSTATE (u : GenWord) : (s.setSTATE u).setSTATE v = s.setSTATE v := rfl

/-! ### respond and raise -/

@[simp] theorem respond_STATE : (respond st c x s).STATE = s.STATE := rfl
@[simp] theorem respond_ports : (respond st c x s).ports = s.ports := rfl
@[simp] theorem respond_host : (respond st c x s).host = s.host := rfl
@[simp] theorem respond_responses :
    (respond st c x s).responses = s.responses ++ [{ STATUS := st.code, COEF := c, EXP := x }] := rfl

@[simp] theorem raise_STATE : (raise e s).STATE = s.STATE := rfl
@[simp] theorem raise_ports : (raise e s).ports = s.ports := rfl
@[simp] theorem raise_host : (raise e s).host = s.host := rfl
@[simp] theorem raise_responses :
    (raise e s).responses = s.responses ++ [{ STATUS := e.code, COEF := 0, EXP := 0 }] := rfl

/-! ### resetBlock -/

@[simp] theorem resetBlock_STATE : (resetBlock s).STATE = BitVec.ofNat 64 Config.defaultSeed := rfl
@[simp] theorem resetBlock_ports : (resetBlock s).ports = s.ports := rfl
@[simp] theorem resetBlock_host : (resetBlock s).host = s.host := rfl
@[simp] theorem resetBlock_responses : (resetBlock s).responses = s.responses := rfl

/-! ### hostAdvance -/

@[simp] theorem hostAdvance_STATE : (hostAdvance s).STATE = s.STATE := by
  unfold hostAdvance; split <;> rfl

@[simp] theorem hostAdvance_responses : (hostAdvance s).responses = s.responses := by
  unfold hostAdvance; split <;> rfl

@[simp] theorem hostAdvance_host : (hostAdvance s).host = s.host.tail := by
  unfold hostAdvance; split <;> simp_all

theorem hostAdvance_ports_of_cons {p : Sized.Ports opW} {rest : List (Sized.Ports opW)} (h : s.host = p :: rest) :
    (hostAdvance s).ports = p := by
  unfold hostAdvance; simp [h]

theorem hostAdvance_ports_of_nil (h : s.host = []) :
    (hostAdvance s).ports = { s.ports with RESET := false, request := false } := by
  unfold hostAdvance; simp [h]

/-! ### withProgram -/

@[simp] theorem withProgram_STATE : (s.withProgram cs).STATE = s.STATE := rfl
@[simp] theorem withProgram_ports : (s.withProgram cs).ports = s.ports := rfl
@[simp] theorem withProgram_host : (s.withProgram cs).host = cs.map Sized.Command.present := rfl
@[simp] theorem withProgram_responses : (s.withProgram cs).responses = s.responses := rfl

/-! ### withFetchWord -/

section listed

variable (s : State)

@[simp] theorem withFetchWord_STATE : (s.withFetchWord n w).STATE = s.STATE := rfl
@[simp] theorem withFetchWord_host : (s.withFetchWord n w).host = s.host := rfl
@[simp] theorem withFetchWord_responses : (s.withFetchWord n w).responses = s.responses := rfl
@[simp] theorem withFetchWord_RESET : (s.withFetchWord n w).ports.RESET = false := rfl
@[simp] theorem withFetchWord_request : (s.withFetchWord n w).ports.request = true := rfl
@[simp] theorem withFetchWord_CMD : (s.withFetchWord n w).CMD = BitVec.ofNat 32 (w % 2 ^ n) := rfl
@[simp] theorem withFetchWord_OPA : (s.withFetchWord n w).OPA = s.OPA := rfl
@[simp] theorem withFetchWord_OPB : (s.withFetchWord n w).OPB = s.OPB := rfl

end listed

end Sys2Proof.Machine
end

