-- ==== Sys2Proof/Laws/Ops.lean ====
section
/-! SUPPORT. What each shared operation can do, said once. -/

namespace Sys2Proof.Machine

open Sys2Proof Sys2Proof.Config

variable {opW coefW expW : Nat}

/-! ### Status codes and checks -/

theorem Status.code_injective {a b : Status} (h : a.code = b.code) : a = b := by
  revert h; cases a <;> cases b <;> decide

theorem Status.code_le_three (a : Status) : a.code.toNat ≤ 3 := by cases a <;> decide

@[simp] theorem Status.code_eq_zero_iff (a : Status) : a.code = 0 ↔ a = .ok := by
  cases a <;> decide

theorem checkBlocks_eq_none_iff (b : Nat) : checkBlocks b = none ↔ b ≠ 0 := by
  simp [checkBlocks]

theorem checkRange_eq_none_iff (low high : Int) : checkRange low high = none ↔ low ≤ high := by
  simp [checkRange]

theorem checkBlocksThenRange_eq_none_iff (b : Nat) (low high : Int) :
    checkBlocksThenRange b low high = none ↔ b ≠ 0 ∧ low ≤ high := by
  unfold checkBlocksThenRange checkBlocks
  split_ifs with h <;> simp [checkRange, h]

theorem checkBlocksThenRange_zero (low high : Int) :
    checkBlocksThenRange 0 low high = some .invalidBlocks := rfl

theorem checkBlocksThenRange_pos {b : Nat} (h : b ≠ 0) (low high : Int) :
    checkBlocksThenRange b low high = checkRange low high := by
  simp [checkBlocksThenRange, checkBlocks, h]

/-- All that a guarded command can do. -/
theorem guarded_cases (chk : Option Status) (s : Sized.State opW coefW expW)
    (f : Sized.State opW coefW expW → Sized.State opW coefW expW) :
    (∃ e, chk = some e ∧ guarded chk s f = .next (raise e s)) ∨
      (chk = none ∧ guarded chk s f = .next (f s)) := by
  cases chk with
  | none => exact .inr ⟨rfl, rfl⟩
  | some e => exact .inl ⟨e, rfl, rfl⟩

/-! ### The generator -/

@[simp] theorem lcgIter_zero (s : GenWord) : lcgIter 0 s = s := rfl

theorem lcgIter_succ (k : Nat) (s : GenWord) : lcgIter (k + 1) s = lcg (lcgIter k s) := rfl

/-- Iterations compose: k more after j. -/
theorem lcgIter_add (j k : Nat) (s : GenWord) : lcgIter (j + k) s = lcgIter k (lcgIter j s) := by
  induction k with
  | zero => rfl
  | succ k ih => rw [← Nat.add_assoc, lcgIter_succ, lcgIter_succ, ih]

@[simp] theorem genWord_fst (l : Nat) (s : Sized.State opW coefW expW) : (genWord l s).1 = lcgIter l s.STATE := rfl

@[simp] theorem genWord_snd (l : Nat) (s : Sized.State opW coefW expW) :
    (genWord l s).2 = s.setSTATE (lcgIter l s.STATE) := rfl

/-- Drawing words changes nothing but STATE. -/
theorem genValFrom_frame (l b val : Nat) (s : Sized.State opW coefW expW) :
    ∃ st, (genValFrom l b val s).2 = s.setSTATE st := by
  induction b generalizing val s with
  | zero => exact ⟨s.STATE, rfl⟩
  | succ b ih =>
    obtain ⟨st, h⟩ := ih (val * 2 ^ 64 + (genWord l s).1.toNat) (genWord l s).2
    exact ⟨st, h⟩

theorem genVal_frame (b l : Nat) (s : Sized.State opW coefW expW) : ∃ st, (genVal b l s).2 = s.setSTATE st :=
  genValFrom_frame l b 0 s

/-! ### Range mapping -/

theorem span_pos {low high : Int} (h : low ≤ high) : 0 < span low high := by
  unfold span; omega

theorem mapIntoRange_eq_low (low : Int) (v : Nat) : mapIntoRange low low v = low := by
  have h : span low low = 1 := by unfold span; omega
  simp [mapIntoRange, h]

/-! ### The step -/

@[simp] theorem thenHost_next (s : Sized.State opW coefW expW) : thenHost (.next s) = .next (hostAdvance s) := rfl

theorem thenHost_eq_next {o : Host.Outcome (Sized.State opW coefW expW) Fault Refusal}
    {t : Sized.State opW coefW expW} (h : thenHost o = .next t) :
    ∃ u, o = .next u ∧ t = hostAdvance u := by
  cases o with
  | next u => exact ⟨u, rfl, (Host.Outcome.next.inj h).symm⟩
  | fault r => cases h
  | refused r => cases h

/-- All that a step can do, whatever runs the decoded instruction. -/
theorem blockStep_cases
    (run : Instr → Sized.State opW coefW expW → Host.Outcome (Sized.State opW coefW expW) Fault Refusal)
    (s : Sized.State opW coefW expW) :
    (s.ports.RESET = true ∧ blockStep run s = .next (hostAdvance (resetBlock s))) ∨
    (s.ports.RESET = false ∧ s.ports.request = true ∧
      ((∃ i, decode s.CMD = .legal i ∧ blockStep run s = thenHost (run i s)) ∨
        (∃ why, decode s.CMD = .illegal why ∧ blockStep run s = .next (hostAdvance (illegalCommand s))))) ∨
    (s.ports.RESET = false ∧ s.ports.request = false ∧ blockStep run s = .next (hostAdvance s)) := by
  unfold blockStep
  cases hR : s.ports.RESET <;> cases hq : s.ports.request <;> cases hd : decode s.CMD <;> simp

/-- All that a step of the listed block can do. -/
theorem step_cases (s : State) :
    (s.ports.RESET = true ∧ step s = .next (hostAdvance (resetBlock s))) ∨
    (s.ports.RESET = false ∧ s.ports.request = true ∧
      ((∃ i, decode s.CMD = .legal i ∧ step s = thenHost (exec i s)) ∨
        (∃ why, decode s.CMD = .illegal why ∧ step s = .next (hostAdvance (illegalCommand s))))) ∨
    (s.ports.RESET = false ∧ s.ports.request = false ∧ step s = .next (hostAdvance s)) :=
  blockStep_cases exec s

/-! ### The listed realisation -/

/-- `exec` is the listed realisation. -/
theorem exec_eq_execWith (i : Instr) (s : State) : exec i s = execWith Params.listed i s := by
  cases i <;> rfl

/-- `step` is the listed realisation's step. -/
theorem step_eq_stepWith (s : State) : step s = stepWith Params.listed s := by
  have h : exec = execWith Params.listed := funext fun i => funext fun u => exec_eq_execWith i u
  exact congrArg (fun run => blockStep run s) h

end Sys2Proof.Machine
end

