-- ==== Sys2Proof/Laws/PerInstr.lean ====
section
/-! SUPPORT. Facts about every instruction as syntax, one lemma per constructor. -/

namespace Sys2Proof.Laws.FixedFields

open Sys2Proof

/-- The word of an instruction carries its operation number and zeros in both reserved fields (R61, R62). -/
def Statement (i : Instr) : Prop :=
  opField (encode i) = i.opNumber ∧ rsv0Field (encode i) = 0 ∧ rsv1Field (encode i) = 0

/-- The same of any packed word. -/
theorem packWord_fixed (op b l : Nat) :
    opField (packWord op b l) = op % 16 ∧ rsv0Field (packWord op b l) = 0 ∧ rsv1Field (packWord op b l) = 0 := by
  unfold opField rsv0Field rsv1Field packWord
  simp only [extractField_toNat, BitVec.toNat_ofNat]
  omega

theorem seed : Statement .seed := packWord_fixed 1 0 0

theorem raw (l : Nat) : Statement (.raw l) := packWord_fixed 2 0 l

theorem rint (l : Nat) : Statement (.rint l) := packWord_fixed 3 0 l

theorem rbig (b l : Nat) : Statement (.rbig b l) := packWord_fixed 4 b l

theorem rfrac (b l : Nat) : Statement (.rfrac b l) := packWord_fixed 5 b l

end Sys2Proof.Laws.FixedFields
end

