-- ==== Sys2Proof/Laws/Safety.lean ====
section
/-! SUPPORT. Small lemmas about the terms claims are stated in. -/

namespace Sys2Proof.Machine

open Sys2Proof Sys2Proof.Config

variable {opW coefW expW : Nat} (s : Sized.State opW coefW expW) (st : GenWord) (r : Sized.Response coefW expW)

/-! ### answered -/

@[simp] theorem answered_STATE : (s.answered st r).STATE = st := rfl
@[simp] theorem answered_ports : (s.answered st r).ports = s.ports := rfl
@[simp] theorem answered_host : (s.answered st r).host = s.host := rfl
@[simp] theorem answered_responses : (s.answered st r).responses = s.responses ++ [r] := rfl

/-- A command that writes STATE and completes. -/
theorem respond_setSTATE (c : BitVec coefW) (x : BitVec expW) :
    respond .ok c x (s.setSTATE st) = s.answered st (okResponse c x) := rfl

/-- An error as an answer that leaves STATE. -/
theorem raise_eq_answered (e : Status) : raise e s = s.answered s.STATE (errorResponse e) := rfl

/-- The response that was appended can be read back. -/
theorem answered_inj {st' : GenWord} {r' : Sized.Response coefW expW} (h : s.answered st r = s.answered st' r') :
    st = st' ∧ r = r' := by
  have hr := congrArg Sized.State.responses h
  have hs := congrArg Sized.State.STATE h
  simp only [answered_responses, List.append_cancel_left_eq, List.cons.injEq, and_true] at hr
  exact ⟨hs, hr⟩

/-! ### withOperands -/

@[simp] theorem withOperands_STATE (a b : BitVec opW) : (s.withOperands a b).STATE = s.STATE := rfl
@[simp] theorem withOperands_OPA (a b : BitVec opW) : (s.withOperands a b).OPA = a := rfl
@[simp] theorem withOperands_OPB (a b : BitVec opW) : (s.withOperands a b).OPB = b := rfl
@[simp] theorem withOperands_CMD (a b : BitVec opW) : (s.withOperands a b).CMD = s.CMD := rfl
@[simp] theorem withOperands_responses (a b : BitVec opW) : (s.withOperands a b).responses = s.responses := rfl

/-! ### The listed parameters -/

@[simp] theorem listed_bigW : Params.listed.bigW = 512 := rfl
@[simp] theorem listed_decCoefW : Params.listed.decCoefW = 512 := rfl
@[simp] theorem listed_decExpW : Params.listed.decExpW = 8 := rfl
@[simp] theorem listed_opW : Params.listed.opW = 576 := rfl
@[simp] theorem listed_resCoefW : Params.listed.resCoefW = 4608 := rfl
@[simp] theorem listed_resExpW : Params.listed.resExpW = 16 := rfl

theorem listed_valid : Params.listed.Valid := by decide +kernel

theorem rfracBound_eq (p : Params) (bus : BitVec opW) : rfracBound p bus = decAt p bus := rfl

@[simp] theorem decAt_listed (bus : OperandBus) : decAt Params.listed bus = decOn bus := rfl

/-! ### Runs -/

/-- One step of a run that answers a next state. -/
theorem run_succ_of_next (M : Host.Core) (k : Nat) {a b : M.State} (h : M.step a = .next b) :
    M.run (k + 1) a = M.run k b := by
  simp [Host.Core.run, h]

@[simp] theorem observe_nil (p : Params) : observe p st [] = (st, []) := rfl

theorem observe_cons (p : Params) (x : Sized.Ports p.opW) (xs : List (Sized.Ports p.opW)) :
    observe p st (x :: xs) =
      ((observe p (observeOne p st x).1 xs).1, (observeOne p st x).2 ++ (observe p (observeOne p st x).1 xs).2) := rfl

end Sys2Proof.Machine
end

