-- ==== Sys2Proof/Tests/Slice0.lean ====
section
/-! SUPPORT. Tests against values of the spec (the V numbers are those of 95_test_vectors.md, which its text says were
computed from the rules), the WellFormed smoke tests, and for every obligation with hypotheses a concrete case that meets
them. -/

namespace Sys2Proof.Tests

/- One test at a time: each evaluates in the kernel, and side by side they take more threads than a check allows. -/
set_option Elab.async false

open Sys2Proof Sys2Proof.Machine Sys2Proof.Config

/-! ### Helpers -/

/-- A block in which the host presents one command and nothing more. -/
def presenting (st : GenWord) (cmd : CmdWord) (a b : OperandBus) : State :=
  { STATE := st, ports := Sized.Command.present { CMD := cmd, OPA := a, OPB := b }, host := [], responses := [] }

/-- STATE and the last response of a step; none where it does not answer. -/
def seen : Host.Outcome State Fault Refusal → Option (GenWord × Option Response)
  | .next t => some (t.STATE, t.responses.getLast?)
  | .fault _ => none
  | .refused _ => none

/-- An operand bus with a signed integer in its low w bits. -/
def bus (w : Nat) (v : Int) : OperandBus := (BitVec.ofInt w v).setWidth 576

/-- An operand bus with a decimal pair. -/
def decPair (coef exp : Int) : OperandBus := (BitVec.ofInt 8 exp ++ BitVec.ofInt 512 coef).setWidth 576

/-- A completed response with a signed coefficient. -/
def okInt (coef exp : Int) : Response := okResponse (BitVec.ofInt 4608 coef) (BitVec.ofInt 16 exp)

/-! ### WellFormed refuses what does not fit its field -/

theorem test_wf_raw_layers : Instr.wellFormed (.raw 256) = false := by decide
theorem test_wf_rint_layers : Instr.wellFormed (.rint 256) = false := by decide
theorem test_wf_rbig_blocks : Instr.wellFormed (.rbig 16 8) = false := by decide
theorem test_wf_rbig_layers : Instr.wellFormed (.rbig 4 256) = false := by decide
theorem test_wf_rfrac_blocks : Instr.wellFormed (.rfrac 16 8) = false := by decide
theorem test_wf_rfrac_layers : Instr.wellFormed (.rfrac 4 256) = false := by decide
theorem test_wf_accepts_zero_blocks : Instr.wellFormed (.rbig 0 255) = true := by decide

/-! ### Decoding, from words written out bit by bit (R61, R64: RSV1, BLOCKS, LAYERS, RSV0, OP) -/

theorem test_decode_seed : decode 0b00000000000000000000000000000001#32 = .legal .seed := by decide
theorem test_decode_raw : decode 0b00000000000000001000000100000010#32 = .legal (.raw 129) := by decide
theorem test_decode_rint : decode 0b00000000000000000000100000000011#32 = .legal (.rint 8) := by decide
theorem test_decode_rbig : decode 0b00000000000011010000010100000100#32 = .legal (.rbig 13 5) := by decide
theorem test_decode_rfrac : decode 0b00000000000000100000000000000101#32 = .legal (.rfrac 2 0) := by decide

/-- V60, V62, V63, V65, V66, V13, V14: the words and the reasons R73 gives. -/
theorem test_decode_illegal :
    decode 0x00000000#32 = .illegal .opcode ∧ decode 0x0000000F#32 = .illegal .opcode ∧
    decode 0x00000012#32 = .illegal .rsv0 ∧ decode 0x80000802#32 = .illegal .rsv1 ∧
    decode 0x00010802#32 = .illegal .blocksNotUsed ∧ decode 0x00000801#32 = .illegal .layersNotUsed ∧
    decode 0x00010001#32 = .illegal .blocksNotUsed := by decide

theorem test_encode_rbig : encode (.rbig 15 8) = 0x000F0804#32 := by decide

/-! ### One step each -/

/-- V12. -/
theorem test_seed_reduces :
    seen (step (presenting 123456789 0x00000001 (BitVec.ofNat 576 92345432345698767761) 0)) =
      some (111711977151009681, some (okInt 0 0)) := by decide +kernel

/-- V13. -/
theorem test_seed_with_layers :
    seen (step (presenting 123456789 0x00000801 5 0)) = some (123456789, some (errorResponse .illegalCmd)) := by
  decide +kernel

/-- V6. -/
theorem test_raw_255 :
    seen (step (presenting 123456789 0x0000FF02 0 0)) =
      some (1842532792115954590, some (okInt 1842532792115954590 0)) := by decide +kernel

/-- V3: a word of 2^63 or more is a positive COEF. -/
theorem test_raw_high_word_positive :
    seen (step (presenting 123456789 0x00000102 0 0)) =
      some (18192599831048943872, some (okInt 18192599831048943872 0)) := by decide +kernel

/-- V21. -/
theorem test_rint_negative_low :
    seen (step (presenting 123456789 0x00000803 (bus 64 (-5)) (bus 64 5))) =
      some (0xE3556946B98ED75D, some (okInt (-2) 0)) := by decide +kernel

/-- V26: span = 2^64. -/
theorem test_rint_full_span :
    seen (step (presenting 123456789 0x00000803 (bus 64 (-2 ^ 63)) (bus 64 (2 ^ 63 - 1)))) =
      some (0xE3556946B98ED75D, some (okInt 7157742935257044829 0)) := by decide +kernel

/-- V32. -/
theorem test_rbig_four_blocks :
    seen (step (presenting 123456789 0x00040804 (bus 512 (-100000000000000000000000000000000000000000000000000))
      (bus 512 100000000000000000000000000000000000000000000000000))) =
      some (0xCB2002786CC31C35, some (okInt (-3800967813232377751471528930861253897463998591077) 0)) := by
  decide +kernel

/-- V37: INVALID_BLOCKS before INVALID_RANGE. -/
theorem test_rbig_priority :
    seen (step (presenting 123456789 0x00000804 (bus 512 5) (bus 512 3))) =
      some (123456789, some (errorResponse .invalidBlocks)) := by decide +kernel

/-- V43: bounds -0.5 and 0.5; the value 0.388... at EXP = -65. -/
theorem test_rfrac_half :
    seen (step (presenting 123456789 0x00010805 (decPair (-5) (-1)) (decPair 5 (-1)))) =
      some (0xE3556946B98ED75D,
        some (okInt 38802202202492296572279920074954873143724398687481880187988281250 (-65))) := by decide +kernel

/-- V45: bounds with exponents 0 and 2; the value 88.914... at EXP = -64. -/
theorem test_rfrac_mixed_exponents :
    seen (step (presenting 123456789 0x00010805 (decPair 1 0) (decPair 1 2))) =
      some (0xE3556946B98ED75D,
        some (okInt 889141801804673736065571208742053244122871547006070613861083984375 (-64))) := by
  decide +kernel

/-- V65. -/
theorem test_illegal_reserved_bit :
    seen (step (presenting 123456789 0x80000802 0 0)) = some (123456789, some (errorResponse .illegalCmd)) := by
  decide +kernel

/-- R241: reset wins over the command presented with it, which is not answered. -/
theorem test_reset_abandons :
    seen (step { presenting 7 0x00000802 0 0 with
      ports := { RESET := true, request := true, command := { CMD := 0x00000802, OPA := 0, OPB := 0 } } }) =
      some (123456789, none) := by decide +kernel

/-- The word placed by withFetchWord is the first that runs after reset (V5). -/
theorem test_first_word_after_reset :
    seen (step (State.reset.withFetchWord 32 0x00000802)) =
      some (0xE3556946B98ED75D, some (okInt 16381114972111820637 0)) := by decide +kernel

/-- A program loaded at reset starts with one step of waiting (log entry 2). -/
theorem test_program_from_reset :
    (match step (State.reset.withProgram [{ CMD := 0x00000802, OPA := 0, OPB := 0 }]) with
      | .next t => decide (t.STATE = 123456789 ∧ t.ports.request = true ∧ t.CMD = 0x00000802)
      | _ => false) = true := by decide +kernel

/-- Instance 1 steps, instance 0 stays (R24). -/
theorem test_copies :
    (match System.stepAt 1 [presenting 5 0x00000102 0 0, presenting 0 0x00000102 0 0] with
      | .next sys => sys.map Sized.State.STATE
      | _ => []) = [5, 0x14057B7EF767814F] := by decide +kernel

/-- A realisation with P_BIG_W = 640: equal bounds of 2^600, which no listed bus holds (R68, R123). -/
theorem test_wide_rbig :
    (match stepWith { bigW := 640, opW := 640 }
        { STATE := 0
          ports := { RESET := false, request := true
                     command := { CMD := 0x00010104, OPA := BitVec.ofNat 640 (2 ^ 600)
                                  OPB := BitVec.ofNat 640 (2 ^ 600) } }
          host := [], responses := [] } with
      | .next t => t.responses.map fun r => r.COEF.toInt
      | _ => []) = [2 ^ 600] := by decide +kernel

/-! ### The assembler (R86, R88) -/

/-- R88: operands and comment, case ignored. -/
theorem test_asm_rint :
    assembleText Params.listed " rint -100000, 100000 ; range".toList =
      some (.ok { CMD := 0x00000803, OPA := 0xFFFFFFFFFFFE7960, OPB := 0x00000000000186A0 }) := by decide +kernel

/-- R88 and the operand pattern under table 2.4 of 95_test_vectors.md. -/
theorem test_asm_rbig :
    assembleText Params.listed "RBIG -1e50, 1e50".toList =
      some (.ok
        { CMD := 0x00040804
          OPA := bus 512 (-100000000000000000000000000000000000000000000000000)
          OPB := 0x446C3B15F9926687D2C40534FDB564000000000000 }) := by decide +kernel

/-- The examples of R86. -/
theorem test_decimal_literals :
    decLiteral "0".toList = some { coef := 0, exp := 0 } ∧
    decLiteral "0.5".toList = some { coef := 5, exp := -1 } ∧
    decLiteral "-1e50".toList = some { coef := -1, exp := 50 } ∧
    decLiteral "2.50e-3".toList = some { coef := 250, exp := -5 } := by decide +kernel

/-- R80: an operand may not be omitted while a later one is given; R86: a literal that does not fit is rejected. -/
theorem test_asm_rejects :
    assembleText Params.listed "RINT 1, , 2".toList = some (.error .operandCount) ∧
    assembleText Params.listed "RAW 256".toList = some (.error .doesNotFit) ∧
    assembleText Params.listed "RBIG 0, 1, 16".toList = some (.error .doesNotFit) := by decide +kernel

/-- Two commands, a blank line and a comment line. -/
theorem test_asm_program :
    assembleProgram Params.listed "SEED 0\n\n; step\nRAW 1\n".toList =
      .ok [{ CMD := 0x00000001, OPA := 0, OPB := 0 }, { CMD := 0x00000102, OPA := 0, OPB := 0 }] := by decide +kernel

/-! ### Witnesses: for each obligation with hypotheses, a case that meets them together -/

theorem witness_DecodeOfEncodeIsIdentity :
    Instr.wellFormed (.rbig 15 255) = true ∧ Instr.wellFormed (.rfrac 0 0) = true := by decide

theorem witness_EncodeOfDecodeIsIdentity : decode 0x000FFF05#32 = .legal (.rfrac 15 255) := by decide

theorem witness_TransitionsHaveNoFixedPoint : (1 : Nat) ≤ 255 ∧ 255 ≤ (255 : Nat) := by decide

theorem witness_CompletedGenerationChangesState :
    Instr.wellFormed (.rbig 15 1) = true ∧ Instr.transitions (.rbig 15 1) ≠ 0 ∧
    (match exec (.rbig 15 1) (presenting 1 0x000F0104 0 (bus 512 9)) with
      | .next t => decide ((t.responses.map Sized.Response.STATUS) = [0])
      | _ => false) = true := by decide +kernel

/-- Clauses 2, 3, 4 and 6 of SeedConstructsGenerator. -/
theorem witness_SeedConstructsGenerator :
    (presenting 1 0x00000001 3 4).Presents ∧ (presenting 1 0x00000001 3 4).CMD = 0x00000001#32 ∧
    (presenting 1 0x00000101 3 4).Presents ∧ (presenting 1 0x00000101 3 4).CMD.extractLsb' 0 4 = 1 ∧
    (presenting 1 0x00000101 3 4).CMD ≠ 0x00000001#32 ∧
    (presenting 1 0x00000001 (BitVec.ofNat 576 (2 ^ 64)) 0).OPA = BitVec.ofNat 576 (2 ^ 64) ∧
    (presenting 1 0x00000001 (BitVec.ofNat 576 92345432345698767761) 0).OPA =
      BitVec.ofNat 576 92345432345698767761 := by
  exact ⟨⟨rfl, rfl⟩, rfl, ⟨rfl, rfl⟩, by decide, by decide, rfl, rfl⟩

/-- Clauses 2 and 3 of RawGeneratesWord, at LAYERS = 255 and BLOCKS = 1. -/
theorem witness_RawGeneratesWord :
    (presenting 1 0x0000FF02 0 0).Presents ∧
    (presenting 1 0x0000FF02 0 0).CMD &&& 0xFFFF00FF#32 = 0x00000002#32 ∧
    (presenting 1 0x00010802 0 0).Presents ∧ (presenting 1 0x00010802 0 0).CMD.extractLsb' 0 4 = 2 ∧
    (presenting 1 0x00010802 0 0).CMD.extractLsb' 16 4 ≠ 0 := by
  exact ⟨⟨rfl, rfl⟩, by decide, ⟨rfl, rfl⟩, by decide, by decide⟩

/-- The bounds of clauses 2, 3 and 4 of ZeroLayersIsIdentity, at equal bounds. -/
theorem witness_ZeroLayersIsIdentity :
    ((bus 64 (-1)).extractLsb' 0 64).toInt ≤ ((bus 64 (-1)).extractLsb' 0 64).toInt ∧
    ((bus 512 (-1)).extractLsb' 0 512).toInt ≤ ((bus 512 0).extractLsb' 0 512).toInt ∧
    alignTo (decOn (decPair 10 0)) (decOn (decPair 1 1)) ≤ alignTo (decOn (decPair 1 1)) (decOn (decPair 10 0)) := by
  decide +kernel

theorem witness_LayeringComposes : 0 + 255 ≤ 255 ∧ 3 + 5 ≤ 255 := by decide

/-- The cases of RintMapsWordIntoRange: ordered, reversed, equal and widest bounds; a word with the mask; BLOCKS ≠ 0; the
example. -/
theorem witness_RintMapsWordIntoRange :
    ((bus 64 (-5)).extractLsb' 0 64).toInt = -5 ∧ ((bus 64 5).extractLsb' 0 64).toInt = 5 ∧ (-5 : Int) ≤ 5 ∧
    ((bus 64 3).extractLsb' 0 64).toInt < ((bus 64 5).extractLsb' 0 64).toInt ∧
    ((bus 64 (-2 ^ 63)).extractLsb' 0 64).toInt = -2 ^ 63 ∧
    ((bus 64 (2 ^ 63 - 1)).extractLsb' 0 64).toInt = 2 ^ 63 - 1 ∧
    0x0000FF03#32 &&& 0xFFFF00FF#32 = 0x00000003#32 ∧
    (0x00040803#32).extractLsb' 0 4 = 3 ∧ (0x00040803#32).extractLsb' 16 4 ≠ 0 ∧
    (bus 64 (-5)).extractLsb' 0 64 = BitVec.ofInt 64 (-5) ∧ (bus 64 5).extractLsb' 0 64 = 5 := by decide +kernel

/-- RintResultInRange and RintDegenerateRange. -/
theorem witness_RintResultInRange :
    ((bus 64 7).extractLsb' 0 64).toInt = 7 ∧ (7 : Int) ≤ 7 ∧
    (presenting 1 0x00000803 (bus 64 7) (bus 64 7)).OPA.extractLsb' 0 64 =
      (presenting 1 0x00000803 (bus 64 7) (bus 64 7)).OPB.extractLsb' 0 64 := by decide +kernel

/-- The cases of RbigMapsWordsIntoRange: ordered, reversed, equal, widest and under-sized; the mask; the example. -/
theorem witness_RbigMapsWordsIntoRange :
    ((bus 512 0).extractLsb' 0 512).toInt ≤ ((bus 512 10).extractLsb' 0 512).toInt ∧
    ((bus 512 3).extractLsb' 0 512).toInt < ((bus 512 5).extractLsb' 0 512).toInt ∧
    ((bus 512 (-2 ^ 511)).extractLsb' 0 512).toInt = -2 ^ 511 ∧
    ((bus 512 (2 ^ 511 - 1)).extractLsb' 0 512).toInt = 2 ^ 511 - 1 ∧
    (2 : Int) ^ (64 * 1) < ((bus 512 (2 ^ 64)).extractLsb' 0 512).toInt - ((bus 512 0).extractLsb' 0 512).toInt + 1 ∧
    0x000FFF04#32 &&& 0xFFF000FF#32 = 0x00000004#32 ∧
    (bus 512 0).extractLsb' 0 512 = 0 ∧
    (bus 512 (2 ^ 128 - 1)).extractLsb' 0 512 = BitVec.ofNat 512 (2 ^ 128 - 1) := by decide +kernel

/-- Params.Valid at the listed values and at other realisations': narrower, wider, and with a wider exponent. -/
theorem witness_Params_Valid :
    Params.listed.Valid ∧ Params.Valid { bigW := 64, decCoefW := 500, decExpW := 8 } ∧
      Params.Valid { bigW := 576, decCoefW := 1, decExpW := 1 } ∧ Params.Valid { bigW := 640, opW := 640 } ∧
      Params.Valid { decCoefW := 256, decExpW := 9, resCoefW := 5200 } := by decide +kernel

/-- SpanIsExact at its ends: span 1 and span 2^64; P_BIG_W = 64. -/
theorem witness_SpanIsExact :
    rintBound (bus 64 7) ≤ rintBound (bus 64 7) ∧ span (rintBound (bus 64 7)) (rintBound (bus 64 7)) = 1 ∧
    rintBound (bus 64 (-2 ^ 63)) ≤ rintBound (bus 64 (2 ^ 63 - 1)) ∧
    span (rintBound (bus 64 (-2 ^ 63))) (rintBound (bus 64 (2 ^ 63 - 1))) = 2 ^ 64 ∧
    rbigBound Params.listed (bus 512 (-1)) ≤ rbigBound Params.listed (bus 512 0) ∧
    64 ≤ Params.bigW { bigW := 64 } ∧
    rbigBound { bigW := 64 } (bus 64 (-2 ^ 63)) ≤ rbigBound { bigW := 64 } (bus 64 (2 ^ 63 - 1)) := by decide +kernel

/-- AlignedBoundsCompareAsValues: (1, 0) above (5, -1), as coefficients 10 and 5 at e = -1. -/
theorem witness_AlignedBoundsCompareAsValues :
    decOn (decPair 1 0) = Dec.mk 1 0 ∧ decOn (decPair 5 (-1)) = Dec.mk 5 (-1) ∧
    commonExp (Dec.mk 1 0) (Dec.mk 5 (-1)) = -1 ∧
    alignedCoef (-1) (Dec.mk 5 (-1)) < alignedCoef (-1) (Dec.mk 1 0) ∧ (1 : Nat) ≠ 0 := by decide +kernel

/-- RbigResultInRange, at another realisation's width. -/
theorem witness_RbigResultInRange :
    ((bus 64 (-3)).extractLsb' 0 64).toInt = -3 ∧ ((bus 64 4).extractLsb' 0 64).toInt = 4 ∧ (1 : Nat) ≠ 0 ∧
      (-3 : Int) ≤ 4 := by decide +kernel

/-- UndersizedBlocksStayLow, at the smallest span above 2^64. -/
theorem witness_UndersizedBlocksStayLow :
    (2 : Int) ^ (64 * 1) <
      ((bus 512 (2 ^ 64)).extractLsb' 0 512).toInt - ((bus 512 0).extractLsb' 0 512).toInt + 1 := by decide +kernel

/-- RangeMappingIsNearlyUniform, with span dividing and not dividing N. -/
theorem witness_RangeMappingIsNearlyUniform :
    (-5 : Int) ≤ 5 ∧ ((5 : Int) - (-5) + 1) ∣ ((22 : Nat) : Int) ∧ ¬ ((5 : Int) - (-5) + 1) ∣ ((23 : Nat) : Int) := by
  decide

theorem witness_RintIsRbigOfOneBlock :
    (presenting 9 3 (bus 64 (-5)) (bus 64 5)).STATE = (presenting 9 4 (bus 512 (-5)) (bus 512 5)).STATE ∧
    ((bus 64 (-5)).extractLsb' 0 64).toInt = ((bus 512 (-5)).extractLsb' 0 512).toInt ∧
    ((bus 64 5).extractLsb' 0 64).toInt = ((bus 512 5).extractLsb' 0 512).toInt := by decide +kernel

/-- The values RfracScalesExactly, ListedRfracValueIsExact, RfracValueInRange and RfracResultFitsBus ask for: ordered and
reversed bounds; the mask; the example's operands. -/
theorem witness_RfracScalesExactly :
    decOn (decPair 0 0) = { coef := 0, exp := 0 } ∧ decOn (decPair 1 0) = { coef := 1, exp := 0 } ∧
    (Dec.mk 0 0).value < (Dec.mk 1 0).value ∧ (Dec.mk (-5) (-1)).value ≤ (Dec.mk 5 (-1)).value ∧
    0x000FFF05#32 &&& 0xFFF000FF#32 = 0x00000005#32 ∧ (15 : Nat) ≠ 0 ∧ 15 ≤ (15 : Nat) := by
  refine ⟨by decide +kernel, by decide +kernel, ?_, ?_, by decide, by decide, by decide⟩ <;> norm_num [Dec.value]

/-- RfracValueIsExact and the first clause of RfracResultFitsBus in a realisation with a 9-bit exponent above a 256-bit
coefficient, and a wider COEF. -/
theorem witness_RfracValueIsExact :
    Params.Valid { decCoefW := 256, decExpW := 9, resCoefW := 5200 } ∧
    decAt { decCoefW := 256, decExpW := 9 } (BitVec.ofNat 576 (2 ^ 257 + 7)) = { coef := 7, exp := 2 } ∧
    decAt { decCoefW := 256, decExpW := 9 } (BitVec.ofNat 576 (2 ^ 257 + 8)) = { coef := 8, exp := 2 } ∧
    (Dec.mk 7 2).value ≤ (Dec.mk 8 2).value := by
  refine ⟨by decide +kernel, by decide +kernel, by decide +kernel, ?_⟩
  norm_num [Dec.value]

/-- A completed RFRAC with val = 0, one with val = 2^64 - 1 (V47, V48), and one with equal bounds. -/
theorem witness_RfracScalesExactly_values :
    blockValue 1 0 0 = 0 ∧ blockValue 1 0 0xFFFFFFFFFFFFFFFF = 2 ^ (64 * 1) - 1 ∧
    (match exec (.rfrac 1 0) (presenting 0 0x00010005 (decPair 0 0) (decPair 1 0)) with
      | .next t => decide ((t.responses.map Sized.Response.STATUS) = [0])
      | _ => false) = true := by decide +kernel

/-- RfracDegenerateRange at V49's bounds 10 and 1e1. -/
theorem witness_RfracDegenerateRange :
    decOn (decPair 10 0) = { coef := 10, exp := 0 } ∧ decOn (decPair 1 1) = { coef := 1, exp := 1 } ∧
    (Dec.mk 10 0).value = (Dec.mk 1 1).value := by
  refine ⟨by decide +kernel, by decide +kernel, ?_⟩
  norm_num [Dec.value]

/-- UnreadOperandBitsIgnored: buses that differ above what RFRAC reads. -/
theorem witness_UnreadOperandBitsIgnored :
    (BitVec.ofNat 576 (2 ^ 520 + 7)).extractLsb' 0 (Instr.readsOPA (.rfrac 1 8)) =
      (BitVec.ofNat 576 7).extractLsb' 0 (Instr.readsOPA (.rfrac 1 8)) ∧
    BitVec.ofNat 576 (2 ^ 520 + 7) ≠ BitVec.ofNat 576 7 := by decide +kernel

/-- The statements over `Presents`: a legal and an illegal word, and B = 0 for both commands that use it. -/
theorem witness_Presents :
    (presenting 1 0x00000804 0 0).Presents ∧ decode (presenting 1 0x00000804 0 0).CMD = .legal (.rbig 0 8) ∧
    (presenting 1 0x00000805 0 0).Presents ∧ decode (presenting 1 0x00000805 0 0).CMD = .legal (.rfrac 0 8) ∧
    (presenting 1 0x00000006 0 0).Presents ∧ decode (presenting 1 0x00000006 0 0).CMD = .illegal .opcode := by
  exact ⟨⟨rfl, rfl⟩, by decide, ⟨rfl, rfl⟩, by decide, ⟨rfl, rfl⟩, by decide⟩

/-- ErrorsHaveNoEffect and ErrorRepeatsUnchanged: an illegal word presented twice. -/
theorem witness_ErrorRepeatsUnchanged :
    (match step { presenting 1 6 0 0 with host := [(presenting 1 6 0 0).ports] } with
      | .next t => (match step t with
        | .next u => decide (t.responses = [errorResponse .illegalCmd] ∧ u.responses.length = 2)
        | _ => false)
      | _ => false) = true ∧ (errorResponse .illegalCmd : Response).STATUS ≠ 0 := by decide +kernel

/-- InstructionFrame: an instruction that answers. -/
theorem witness_InstructionFrame :
    (match exec .seed (presenting 1 1 9 0) with | .next t => decide (t.STATE = 9) | _ => false) = true := by
  decide +kernel

/-- OnlyListedWritersChangeState: each of its three writers changes STATE somewhere. -/
theorem witness_OnlyListedWritersChangeState :
    ((seen (step { presenting 7 0 0 0 with
      ports := { (Sized.Ports.idle : Ports) with RESET := true } })).map Prod.fst) ≠ some 7 ∧
    ((seen (step (presenting 7 1 9 0))).map Prod.fst) = some 9 ∧
    ((seen (step (presenting 7 0x00000102 0 0))).map Prod.fst) ≠ some 7 := by decide +kernel

/-- BlockWaitsForCommand: the reset state. -/
theorem witness_BlockWaitsForCommand :
    State.reset.ports.RESET = false ∧ State.reset.ports.request = false := by decide

/-- StepKeepsResponsesLawful: a state that is not reset, with a lawful response, and a step it takes. -/
theorem witness_StepKeepsResponsesLawful :
    Sized.State.ResponsesLawful
      ({ presenting 1 0x00000102 0 0 with responses := [errorResponse .invalidRange] } : State) ∧
    (match step { presenting 1 0x00000102 0 0 with responses := [errorResponse .invalidRange] } with
      | .next t => decide (t.responses.length = 2)
      | _ => false) = true := by
  refine ⟨?_, by decide +kernel⟩
  intro r hr
  rw [List.mem_singleton.mp hr]
  exact ⟨by decide, fun _ => ⟨rfl, rfl⟩, by decide +kernel, by decide +kernel, by decide +kernel⟩

/-- ResetAbandonsCommand and ResetEqualsDefaultSeedCommand. -/
theorem witness_ResetAbandonsCommand :
    ({ RESET := true, request := true, command := { CMD := 0x802, OPA := 0, OPB := 0 } } : Ports).RESET = true ∧
    (presenting 7 1 123456789 0).Presents ∧ (presenting 7 1 123456789 0).CMD = 0x00000001#32 ∧
    (presenting 7 1 123456789 0).OPA.extractLsb' 0 64 = 123456789#64 := by
  exact ⟨rfl, ⟨rfl, rfl⟩, rfl, by decide +kernel⟩

/-- CopiesAreIndependent. -/
theorem witness_CopiesAreIndependent :
    ([presenting 5 0x00000102 0 0, presenting 6 0x00000102 0 0] : System)[1]? =
      some (presenting 6 0x00000102 0 0) := rfl

/-- AssembledOperandsReadBack at the ends of the ranges. -/
theorem witness_AssembledOperandsReadBack :
    (-2 ^ 63 : Int) ≤ -2 ^ 63 ∧ (2 ^ 63 - 1 : Int) < 2 ^ 63 ∧
    fitsDec Params.listed { coef := -2 ^ 511, exp := -128 } = true ∧
    fitsDec Params.listed { coef := 2 ^ 511 - 1, exp := 127 } = true := by decide +kernel

/-- AssemblerRejectsMisfits: one past each end. -/
theorem witness_AssemblerRejectsMisfits :
    (-1 : Int) < 0 ∧ (256 : Int) ≤ 256 ∧ (16 : Int) ≤ 16 ∧ (-2 ^ 63 - 1 : Int) < -2 ^ 63 ∧ (2 ^ 511 : Int) ≤ 2 ^ 511 ∧
    fitsDec Params.listed { coef := 0, exp := 128 } = false ∧
    fitsDec Params.listed { coef := 2 ^ 511, exp := 0 } = false := by decide +kernel

end Sys2Proof.Tests
end

