-- ==== Sys2Proof/Proofs/State.lean ====
section
/-! PROOFS. Who writes STATE (R22), and blocks that share nothing (R24). -/

namespace Sys2Proof.Machine

open Sys2Proof Sys2Proof.Config

variable {opW coefW expW : Nat}

/-! ### What an instruction can do -/

/-- `gen_val` counts its transitions: B words of L transitions each (R125, R251). -/
theorem genValFrom_snd (l b val : Nat) (s : Sized.State opW coefW expW) :
    (genValFrom l b val s).2 = s.setSTATE (lcgIter (b * l) s.STATE) := by
  induction b generalizing val s with
  | zero => simp [genValFrom]
  | succ b ih => rw [genValFrom, ih, Nat.succ_mul, Nat.add_comm, lcgIter_add]; simp

theorem genVal_snd (b l : Nat) (s : Sized.State opW coefW expW) :
    (genVal b l s).2 = s.setSTATE (lcgIter (b * l) s.STATE) := genValFrom_snd l b 0 s

theorem performRint_answers (l : Nat) (low high : Int) (s : Sized.State opW coefW expW) :
    ∃ c x, performRint l low high s = s.answered (lcgIter l s.STATE) (okResponse c x) := ⟨_, _, rfl⟩

theorem performRbig_answers (p : Params) (b l : Nat) (low high : Int) (s : Sized.State opW coefW expW) :
    ∃ c x, performRbig p b l low high s = s.answered (lcgIter (b * l) s.STATE) (okResponse c x) := by
  rw [performRbig, genVal_snd, respond_setSTATE]
  exact ⟨_, _, rfl⟩

theorem performRfrac_answers (b l : Nat) (lo hi : Dec) (s : Sized.State opW coefW expW) :
    ∃ c x, performRfrac b l lo hi s = s.answered (lcgIter (b * l) s.STATE) (okResponse c x) := by
  rw [performRfrac, genVal_snd, respond_setSTATE]
  exact ⟨_, _, rfl⟩

/-- A guarded command raises an error, or answers as it does without its check. -/
theorem guarded_raises_or_answers (chk : Option Status) {s : Sized.State opW coefW expW} {st : GenWord}
    {f : Sized.State opW coefW expW → Sized.State opW coefW expW}
    (h : ∃ c x, f s = s.answered st (okResponse c x)) :
    (∃ e, guarded chk s f = .next (raise e s)) ∨
      ∃ c x, guarded chk s f = .next (s.answered st (okResponse c x)) := by
  obtain ⟨c, x, hf⟩ := h
  obtain ⟨e, -, hg⟩ | ⟨-, hg⟩ := guarded_cases chk s f
  · exact .inl ⟨e, hg⟩
  · exact .inr ⟨c, x, hf ▸ hg⟩

/-- All that a generating command can do, in every realisation. -/
theorem execWith_cases_of_ne_seed (p : Params) {i : Instr} (hi : i ≠ .seed) (s : StateFor p) :
    (∃ e, execWith p i s = .next (raise e s)) ∨
      ∃ c x, execWith p i s = .next (s.answered (lcgIter i.transitions s.STATE) (okResponse c x)) := by
  cases i with
  | seed => exact absurd rfl hi
  | raw l => exact .inr ⟨_, _, rfl⟩
  | rint l => exact guarded_raises_or_answers _ (performRint_answers l _ _ s)
  | rbig b l => exact guarded_raises_or_answers _ (performRbig_answers p b l _ _ s)
  | rfrac b l => exact guarded_raises_or_answers _ (performRfrac_answers b l _ _ s)

/-- SEED always answers OK, with STATE the low bits of OPA (R105). -/
theorem exec_seed (s : State) : exec .seed s = .next (s.answered (seedOperand s.OPA) (okResponse 0 0)) := rfl

theorem exec_cases_of_ne_seed {i : Instr} (hi : i ≠ .seed) (s : State) :
    (∃ e, exec i s = .next (raise e s)) ∨
      ∃ c x, exec i s = .next (s.answered (lcgIter i.transitions s.STATE) (okResponse c x)) := by
  rw [exec_eq_execWith]
  exact execWith_cases_of_ne_seed Params.listed hi s

/-- An instruction that changes STATE is SEED, or a generating command that completes. -/
theorem exec_STATE_writer {i : Instr} {s u : State} (h : exec i s = .next u) (hne : u.STATE ≠ s.STATE) :
    (i = .seed ∧ u.STATE = seedOperand s.OPA) ∨
      (i ≠ .seed ∧ ∃ c x, u = s.answered (lcgIter i.transitions s.STATE) (okResponse c x)) := by
  by_cases hi : i = .seed
  · subst hi
    cases (exec_seed s).symm.trans h
    exact .inl ⟨rfl, rfl⟩
  · obtain ⟨e, he⟩ | ⟨c, x, hok⟩ := exec_cases_of_ne_seed hi s
    · cases he.symm.trans h
      exact absurd (raise_STATE s e) hne
    · cases hok.symm.trans h
      exact .inr ⟨hi, c, x, rfl⟩

/-! ### A system of blocks -/

/-- The step of copy k is the block's own step, its result put in place k. -/
theorem stepAt_eq_next {k : Nat} {sys sys' : System} {s : State} (hs : sys[k]? = some s)
    (h : System.stepAt k sys = .next sys') : ∃ t, step s = .next t ∧ sys' = sys.set k t := by
  simp only [System.stepAt, hs] at h
  cases ht : step s with
  | next t => rw [ht] at h; exact ⟨t, rfl, (Host.Outcome.next.inj h).symm⟩
  | fault r => rw [ht] at h; cases h
  | refused r => rw [ht] at h; cases h

/-! ### The statements -/

/-- Settles O43, by the cases of a step: only a reset and an instruction that writes STATE change it. -/
theorem onlyListedWritersChangeState : Obligations.OnlyListedWritersChangeState := by
  intro s t hstep hne
  obtain ⟨hR, h⟩ | ⟨hR, hq, ⟨i, hd, h⟩ | ⟨why, -, h⟩⟩ | ⟨-, -, h⟩ := step_cases s
  · cases h.symm.trans hstep
    exact .inl ⟨hR, by simp [defaultSeed]⟩
  · obtain ⟨u, hu, rfl⟩ := thenHost_eq_next (h.symm.trans hstep)
    rw [hostAdvance_STATE] at hne
    obtain ⟨rfl, hst⟩ | ⟨hi, c, x, rfl⟩ := exec_STATE_writer hu hne
    · exact .inr (.inl ⟨⟨hR, hq⟩, hd, by rw [hostAdvance_STATE, hst]; rfl⟩)
    · exact .inr (.inr ⟨⟨hR, hq⟩, i, okResponse c x, hd, hi, by simp, by simp, rfl⟩)
  · cases h.symm.trans hstep
    exact absurd (by simp [illegalCommand]) hne
  · cases h.symm.trans hstep
    exact absurd (hostAdvance_STATE s) hne

/-- Settles O52: the system after the step is the system before it with the block's own next state in its place. -/
theorem copiesAreIndependent : Obligations.CopiesAreIndependent := by
  intro k sys sys' s hs h
  obtain ⟨t, ht, rfl⟩ := stepAt_eq_next hs h
  have hk : k < sys.length := (List.getElem?_eq_some_iff.mp hs).1
  exact ⟨fun j hj => List.getElem?_set_ne hj.symm, List.length_set, t, ht, List.getElem?_set_self hk⟩

end Sys2Proof.Machine
end

/-! PROOFS. The command word and the buses (30_encoding.md): the decoder is R63's table (R63, R73), a command reads only
its own operand bits (R66), and the result bus carries COEF and EXP (R70). -/

namespace Sys2Proof

/-! ### The decoder as R63 and R73 write it -/

@[simp] theorem Decoded.instr?_legal (i : Instr) : (Decoded.legal i).instr? = some i := rfl
@[simp] theorem Decoded.instr?_illegal (why : IllegalWord) : (Decoded.illegal why).instr? = none := rfl

theorem Decoded.instr?_eq_none_iff (d : Decoded) : d.instr? = none ↔ ∃ why, d = .illegal why := by
  cases d <;> simp

theorem unlessBlocks_legal_instr? (w : CmdWord) (i : Instr) :
    (unlessBlocks w (.legal i)).instr? = if blocksField w = 0 then some i else none := by
  by_cases h : blocksField w = 0 <;> simp [unlessBlocks, h]

/-- R63's branches on the fields of the word, the reasons dropped. -/
theorem decode_instr?_eq (w : CmdWord) :
    (decode w).instr? =
      if rsv0Field w ≠ 0 ∨ rsv1Field w ≠ 0 then none
      else if opField w = 1 then if layersField w = 0 ∧ blocksField w = 0 then some .seed else none
      else if opField w = 2 then if blocksField w = 0 then some (.raw (layersField w)) else none
      else if opField w = 3 then if blocksField w = 0 then some (.rint (layersField w)) else none
      else if opField w = 4 then some (.rbig (blocksField w) (layersField w))
      else if opField w = 5 then some (.rfrac (blocksField w) (layersField w))
      else none := by
  simp only [decode, apply_ite Decoded.instr?, unlessBlocks_legal_instr?, Decoded.instr?_legal,
    Decoded.instr?_illegal, ite_or, ite_and, ite_not, ne_eq]

/-- R73's list on the fields of the word. -/
theorem decode_illegal_iff (w : CmdWord) :
    (∃ why, decode w = .illegal why) ↔
      opField w = 0 ∨ 6 ≤ opField w ∨ rsv0Field w ≠ 0 ∨ rsv1Field w ≠ 0 ∨
        (opField w = 1 ∧ (layersField w ≠ 0 ∨ blocksField w ≠ 0)) ∨
        ((opField w = 2 ∨ opField w = 3) ∧ blocksField w ≠ 0) := by
  rw [← Decoded.instr?_eq_none_iff, decode_instr?_eq]
  split_ifs <;> simp only [true_iff, false_iff] <;> omega

end Sys2Proof

namespace Sys2Proof.Machine

open Sys2Proof Sys2Proof.Config

variable {opW coefW expW : Nat}

/-! ### What a presented word leads to -/

theorem step_of_illegal {s : State} (hp : s.Presents) (h : ∃ why, decode s.CMD = .illegal why) :
    step s = .next (hostAdvance (s.answered s.STATE (errorResponse .illegalCmd))) := by
  obtain ⟨hR, hq⟩ := hp
  obtain ⟨why, hd⟩ := h
  simp [step, blockStep, hR, hq, hd, illegalCommand, raise_eq_answered]

theorem step_of_legal {s : State} {i : Instr} (hp : s.Presents) (hd : decode s.CMD = .legal i) :
    step s = thenHost (exec i s) := by
  obtain ⟨hR, hq⟩ := hp
  simp [step, blockStep, hR, hq, hd]

/-- The host's move hides nothing of the response: two answers to the same s are equal when the steps are. -/
theorem hostAdvance_answered_inj {s : Sized.State opW coefW expW} {st st' : GenWord} {r r' : Sized.Response coefW expW}
    (h : hostAdvance (s.answered st r) = hostAdvance (s.answered st' r')) : r = r' := by
  simpa using congrArg Sized.State.responses h

/-! ### An instruction never answers ILLEGAL_CMD -/

theorem checkRange_ne_illegalCmd (low high : Int) : checkRange low high ≠ some .illegalCmd := by
  unfold checkRange
  split_ifs <;> simp

theorem checkBlocksThenRange_ne_illegalCmd (b : Nat) (low high : Int) :
    checkBlocksThenRange b low high ≠ some .illegalCmd := by
  by_cases hb : b = 0
  · simp [hb, checkBlocksThenRange_zero]
  · rw [checkBlocksThenRange_pos hb]
    exact checkRange_ne_illegalCmd low high

/-- A guarded command whose check is not ILLEGAL_CMD answers with another status. -/
theorem guarded_status_ne_illegalCmd {chk : Option Status} (hchk : chk ≠ some .illegalCmd)
    {s : Sized.State opW coefW expW} {st : GenWord} {f : Sized.State opW coefW expW → Sized.State opW coefW expW}
    (hf : ∃ c x, f s = s.answered st (okResponse c x)) :
    ∃ st' r, guarded chk s f = .next (s.answered st' r) ∧ r.STATUS ≠ Status.illegalCmd.code := by
  obtain ⟨e, rfl, hg⟩ | ⟨-, hg⟩ := guarded_cases chk s f
  · exact ⟨_, _, hg, fun hcode => hchk (congrArg some (Status.code_injective hcode))⟩
  · obtain ⟨c, x, hf⟩ := hf
    exact ⟨_, _, hf ▸ hg, by simp [okResponse, Status.code]⟩

theorem exec_status_ne_illegalCmd (i : Instr) (s : State) :
    ∃ st r, exec i s = .next (s.answered st r) ∧ r.STATUS ≠ Status.illegalCmd.code := by
  cases i with
  | seed => exact ⟨_, _, rfl, by decide⟩
  | raw l => exact ⟨_, _, rfl, by simp [Status.code]⟩
  | rint l => exact guarded_status_ne_illegalCmd (checkRange_ne_illegalCmd _ _) (performRint_answers l _ _ s)
  | rbig b l =>
    exact guarded_status_ne_illegalCmd (checkBlocksThenRange_ne_illegalCmd b _ _) (performRbig_answers _ b l _ _ s)
  | rfrac b l =>
    exact guarded_status_ne_illegalCmd (checkBlocksThenRange_ne_illegalCmd b _ _) (performRfrac_answers b l _ _ s)

/-- A presented word ends with ILLEGAL_CMD if and only if it does not decode. -/
theorem step_illegalCmd_iff {s : State} (hp : s.Presents) :
    step s = .next (hostAdvance (s.answered s.STATE (errorResponse .illegalCmd))) ↔
      ∃ why, decode s.CMD = .illegal why := by
  refine ⟨fun hstep => ?_, step_of_illegal hp⟩
  cases hd : decode s.CMD with
  | illegal why => exact ⟨why, rfl⟩
  | legal i =>
    obtain ⟨st, r, hexec, hr⟩ := exec_status_ne_illegalCmd i s
    rw [step_of_legal hp hd, hexec, thenHost_next] at hstep
    have heq := hostAdvance_answered_inj (Host.Outcome.next.inj hstep)
    exact absurd (congrArg Sized.Response.STATUS heq) hr

/-! ### The bits a command reads -/

/-- Two buses that agree on their low n bits agree on every field inside them. -/
theorem busField_eq_of_agree {a b : BitVec opW} {n lo w : Nat} (h : a.extractLsb' 0 n = b.extractLsb' 0 n)
    (hn : lo + w ≤ n) : busField lo w a = busField lo w b := by
  unfold busField
  rw [← BitVec.extractLsb'_extractLsb'_of_le (x := a) hn, h, BitVec.extractLsb'_extractLsb'_of_le hn]

theorem signedField_eq_of_agree {a b : BitVec opW} {n lo w : Nat} (h : a.extractLsb' 0 n = b.extractLsb' 0 n)
    (hn : lo + w ≤ n) : signedField lo w a = signedField lo w b :=
  congrArg BitVec.toInt (busField_eq_of_agree h hn)

theorem rfracBound_eq_of_agree {a b : OperandBus} (h : a.extractLsb' 0 520 = b.extractLsb' 0 520) :
    rfracBound Params.listed a = rfracBound Params.listed b :=
  congrArg₂ Dec.mk (signedField_eq_of_agree h (by decide)) (signedField_eq_of_agree h (by decide))

/-! ### Other buses commute with what a command does after reading them -/

theorem genValFrom_fst_withOperands (a b : BitVec opW) (l n val : Nat) (s : Sized.State opW coefW expW) :
    (genValFrom l n val (s.withOperands a b)).1 = (genValFrom l n val s).1 := by
  induction n generalizing val s with
  | zero => rfl
  | succ n ih => exact ih _ (genWord l s).2

/-- The value drawn does not depend on the buses. -/
@[simp] theorem genVal_fst_withOperands (a b : BitVec opW) (n l : Nat) (s : Sized.State opW coefW expW) :
    (genVal n l (s.withOperands a b)).1 = (genVal n l s).1 := genValFrom_fst_withOperands a b l n 0 s

theorem performRint_withOperands (a b : BitVec opW) (l : Nat) (low high : Int) (s : Sized.State opW coefW expW) :
    performRint l low high (s.withOperands a b) = (performRint l low high s).withOperands a b := rfl

theorem performRbig_withOperands (p : Params) (a b : BitVec opW) (n l : Nat) (low high : Int)
    (s : Sized.State opW coefW expW) :
    performRbig p n l low high (s.withOperands a b) = (performRbig p n l low high s).withOperands a b := by
  simp only [performRbig, genVal_fst_withOperands, genVal_snd]
  rfl

theorem performRfrac_withOperands (a b : BitVec opW) (n l : Nat) (lo hi : Dec) (s : Sized.State opW coefW expW) :
    performRfrac n l lo hi (s.withOperands a b) = (performRfrac n l lo hi s).withOperands a b := by
  simp only [performRfrac, genVal_fst_withOperands, genVal_snd]
  rfl

/-- The check is made on the bounds alone, so a guarded command commutes with other buses as its performing part does. -/
theorem guarded_withOperands {chk : Option Status} {s t : Sized.State opW coefW expW} {a b : BitVec opW}
    {f : Sized.State opW coefW expW → Sized.State opW coefW expW}
    (hf : f (s.withOperands a b) = (f s).withOperands a b) (h : guarded chk s f = .next t) :
    guarded chk (s.withOperands a b) f = .next (t.withOperands a b) := by
  cases chk with
  | some e => cases h; rfl
  | none => cases h; exact congrArg _ hf

/-- Buses that agree on the bits the instruction reads: same response, same STATE (R66). -/
theorem exec_withOperands {i : Instr} {s t : State} {a b : OperandBus}
    (ha : a.extractLsb' 0 i.readsOPA = s.OPA.extractLsb' 0 i.readsOPA)
    (hb : b.extractLsb' 0 i.readsOPB = s.OPB.extractLsb' 0 i.readsOPB) (h : exec i s = .next t) :
    exec i (s.withOperands a b) = .next (t.withOperands a b) := by
  cases i with
  | seed =>
    have hseed : seedOperand a = seedOperand s.OPA := ha
    cases h
    rw [exec_seed, withOperands_OPA, hseed]
    rfl
  | raw l => cases h; rfl
  | rint l =>
    have hlow : rintBound a = rintBound s.OPA := signedField_eq_of_agree ha le_rfl
    have hhigh : rintBound b = rintBound s.OPB := signedField_eq_of_agree hb le_rfl
    simp only [exec, execRint, withOperands_OPA, withOperands_OPB, hlow, hhigh] at h ⊢
    exact guarded_withOperands (performRint_withOperands a b l _ _ s) h
  | rbig n l =>
    have hlow : rbigBound Params.listed a = rbigBound Params.listed s.OPA := signedField_eq_of_agree ha le_rfl
    have hhigh : rbigBound Params.listed b = rbigBound Params.listed s.OPB := signedField_eq_of_agree hb le_rfl
    simp only [exec, execRbig, execRbigWith, withOperands_OPA, withOperands_OPB, hlow, hhigh] at h ⊢
    exact guarded_withOperands (performRbig_withOperands _ a b n l _ _ s) h
  | rfrac n l =>
    have hlow := rfracBound_eq_of_agree ha
    have hhigh := rfracBound_eq_of_agree hb
    simp only [exec, execRfrac, execRfracWith, withOperands_OPA, withOperands_OPB, hlow, hhigh] at h ⊢
    exact guarded_withOperands (performRfrac_withOperands a b n l _ _ s) h

/-! ### The result bus -/

theorem RES_coefField (r : Sized.Response coefW expW) : r.RES.extractLsb' 0 coefW = r.COEF :=
  BitVec.extractLsb'_append_eq_right

theorem RES_expField (r : Sized.Response coefW expW) : r.RES.extractLsb' coefW expW = r.EXP :=
  BitVec.extractLsb'_append_eq_left

/-! ### The statements -/

/-- Settles O32: the operands are fields of the bits listed, and what follows the reading commutes with other buses. -/
theorem unreadOperandBitsIgnored : Obligations.UnreadOperandBitsIgnored :=
  ⟨fun _ => ⟨rfl, rfl, rfl, rfl⟩, fun _ _ _ _ _ ha hb h => exec_withOperands ha hb h⟩

/-- Settles O34: R73's list is the words that do not decode, and no instruction answers ILLEGAL_CMD. -/
theorem illegalWordsExactly : Obligations.IllegalWordsExactly := by
  intro s hp
  rw [step_illegalCmd_iff hp, decode_illegal_iff]
  simp only [opField, rsv0Field, rsv1Field, layersField, blocksField, BitVec.toNat_eq_nat, ne_eq, Nat.reducePow,
    Nat.reduceLT, Nat.ofNat_pos, true_and, BitVec.ofNat_eq_ofNat]

/-- Settles O1: R63's branches on the fields, each field compared as bits. -/
theorem decoderFollowsTable : Obligations.DecoderFollowsTable := by
  refine ⟨fun s hp hd => step_of_illegal hp ((Decoded.instr?_eq_none_iff _).mp hd), fun l s => ⟨rfl, rfl⟩, fun w => ?_⟩
  rw [decode_instr?_eq]
  simp only [opField, rsv0Field, rsv1Field, layersField, blocksField, BitVec.toNat_eq_nat, ne_eq, Nat.reducePow,
    Nat.reduceLT, Nat.ofNat_pos, true_and, BitVec.ofNat_eq_ofNat]

/-- Settles O33: RES is EXP above COEF. -/
theorem resultBusLayout : Obligations.ResultBusLayout := by
  intro r
  have hc : r.RES.extractLsb' 0 4608 = r.COEF := RES_coefField r
  have hx : r.RES.extractLsb' 4608 16 = r.EXP := RES_expField r
  exact ⟨hc, hx, by rw [hc, hx, Sized.Response.value]⟩

end Sys2Proof.Machine

/-! PROOFS. The generator family (40_generator.md): the transition and the words drawn through it (R101 to R106), SEED
(R105), RAW (R107), and commands with L = 0 (R108). -/

namespace Sys2Proof

/-! ### Fields of a masked word -/

/-- Where the mask is all ones, a masked word shows the word's own field (R64). -/
theorem extractLsb'_of_masked {w mask v : CmdWord} (h : w &&& mask = v) {lo k : Nat}
    (hmask : mask.extractLsb' lo k = BitVec.allOnes k) : w.extractLsb' lo k = v.extractLsb' lo k := by
  rw [← h, BitVec.extractLsb'_and, hmask, BitVec.and_allOnes]

/-- The pattern of a command without BLOCKS fixes every field but LAYERS (R64). -/
theorem fields_of_layersMask {w v : CmdWord} (h : w &&& 0xFFFF00FF#32 = v) :
    opField w = opField v ∧ rsv0Field w = rsv0Field v ∧ blocksField w = blocksField v ∧ rsv1Field w = rsv1Field v :=
  ⟨congrArg BitVec.toNat (extractLsb'_of_masked h (by decide)),
    congrArg BitVec.toNat (extractLsb'_of_masked h (by decide)),
    congrArg BitVec.toNat (extractLsb'_of_masked h (by decide)),
    congrArg BitVec.toNat (extractLsb'_of_masked h (by decide))⟩

theorem decode_raw_of_mask {w : CmdWord} (h : w &&& 0xFFFF00FF#32 = 0x00000002#32) :
    decode w = .legal (.raw (layersField w)) := by
  obtain ⟨hop, hrsv0, hblocks, hrsv1⟩ :
      opField w = 2 ∧ rsv0Field w = 0 ∧ blocksField w = 0 ∧ rsv1Field w = 0 := fields_of_layersMask h
  simp [decode, unlessBlocks, hop, hrsv0, hblocks, hrsv1]

/-- SEED has one word: OP = 1 with anything else in the other fields is illegal (R73, R105). -/
theorem decode_illegal_of_seed_op {w : CmdWord} (hop : opField w = 1) (hw : w ≠ 0x00000001#32) :
    ∃ why, decode w = .illegal why := by
  have hlt := w.isLt
  have hne : w.toNat ≠ 1 := fun h => hw (BitVec.eq_of_toNat_eq h)
  rw [decode_illegal_iff]
  unfold opField rsv0Field rsv1Field layersField blocksField at *
  simp only [extractField_toNat] at *
  omega

end Sys2Proof

namespace Sys2Proof.Machine

open Sys2Proof Sys2Proof.Config

variable {opW coefW expW : Nat}

/-! ### The transition -/

theorem lcg_toNat (s : GenWord) : (lcg s).toNat = (lcgA * s.toNat + lcgC) % 2 ^ 64 := BitVec.toNat_ofNat _ _

/-- The exact sum reduced once is the wrapping sum (R101). -/
theorem lcg_eq_mul_add (s : GenWord) : lcg s = BitVec.ofNat 64 lcgA * s + BitVec.ofNat 64 lcgC := by
  rw [lcg, BitVec.ofNat_add, BitVec.ofNat_mul, BitVec.ofNat_toNat, BitVec.setWidth_eq]

/-! ### The words of a command, in closed form -/

/-- The words after the first are those of a command that starts from the STATE the first one left (R106). -/
theorem wordAt_succ (l i : Nat) (st : GenWord) : wordAt l (i + 1) st = wordAt l i (lcgIter l st) := by
  rw [wordAt, wordAt, ← lcgIter_add, Nat.succ_mul (i + 1), Nat.add_comm l]

/-- The first word is the most significant (R125). -/
theorem blockValue_succ (b l : Nat) (st : GenWord) :
    blockValue (b + 1) l st = (lcgIter l st).toNat * 2 ^ (64 * b) + blockValue b l (lcgIter l st) := by
  have hfirst : wordAt l 0 st = lcgIter l st := by rw [wordAt, Nat.zero_add, Nat.one_mul]
  have hexp (i : Nat) : b + 1 - 1 - (i + 1) = b - 1 - i := by omega
  simp only [blockValue, Finset.sum_range_succ', wordAt_succ, hfirst, hexp]
  exact Nat.add_comm _ _

/-- The loop of `gen_val` shifts what it has accumulated above the words it still draws (R125). -/
theorem genValFrom_fst (l b val : Nat) (s : Sized.State opW coefW expW) :
    (genValFrom l b val s).1 = val * 2 ^ (64 * b) + blockValue b l s.STATE := by
  induction b generalizing val s with
  | zero => simp [genValFrom, blockValue]
  | succ b ih =>
    rw [genValFrom, ih, blockValue_succ, genWord_fst, genWord_snd, setSTATE_STATE]
    ring

theorem genVal_fst (b l : Nat) (s : Sized.State opW coefW expW) : (genVal b l s).1 = blockValue b l s.STATE := by
  rw [genVal, genValFrom_fst, Nat.zero_mul, Nat.zero_add]

/-! ### A generating command that passes its checks -/

@[simp] theorem guarded_none (s : Sized.State opW coefW expW)
    (f : Sized.State opW coefW expW → Sized.State opW coefW expW) : guarded none s f = .next (f s) := rfl

theorem exec_raw (l : Nat) (s : State) :
    exec (.raw l) s =
      .next (s.answered (lcgIter l s.STATE) (okResponse ((lcgIter l s.STATE).setWidth 4608) 0)) := rfl

theorem exec_rint_of_le (l : Nat) {s : State}
    (h : (s.OPA.extractLsb' 0 64).toInt ≤ (s.OPB.extractLsb' 0 64).toInt) :
    exec (.rint l) s = .next (s.answered (lcgIter l s.STATE)
      (okResponse ((BitVec.ofInt 64 ((s.OPA.extractLsb' 0 64).toInt + ((lcgIter l s.STATE).toNat : Int) %
        ((s.OPB.extractLsb' 0 64).toInt - (s.OPA.extractLsb' 0 64).toInt + 1))).signExtend 4608) 0)) := by
  have hcheck : checkRange (rintBound s.OPA) (rintBound s.OPB) = none := (checkRange_eq_none_iff _ _).mpr h
  rw [exec, execRint, hcheck]
  rfl

theorem performRbig_eq (p : Params) (b l : Nat) (low high : Int) (s : Sized.State opW coefW expW) :
    performRbig p b l low high s = s.answered (lcgIter (b * l) s.STATE)
      (okResponse ((BitVec.ofInt p.bigW (low + (blockValue b l s.STATE : Int) % (high - low + 1))).signExtend coefW)
        0) := by
  rw [performRbig, genVal_fst, genVal_snd]
  rfl

theorem exec_rbig_of_le {b : Nat} (l : Nat) {s : State} (hb : b ≠ 0)
    (h : (s.OPA.extractLsb' 0 512).toInt ≤ (s.OPB.extractLsb' 0 512).toInt) :
    exec (.rbig b l) s = .next (s.answered (lcgIter (b * l) s.STATE)
      (okResponse ((BitVec.ofInt 512 ((s.OPA.extractLsb' 0 512).toInt + (blockValue b l s.STATE : Int) %
        ((s.OPB.extractLsb' 0 512).toInt - (s.OPA.extractLsb' 0 512).toInt + 1))).signExtend 4608) 0)) := by
  have hcheck : checkBlocksThenRange b (rbigBound Params.listed s.OPA) (rbigBound Params.listed s.OPB) = none :=
    (checkBlocksThenRange_eq_none_iff b _ _).mpr ⟨hb, h⟩
  rw [exec, execRbig, execRbigWith, hcheck, guarded_none, performRbig_eq]
  rfl

theorem alignedCoef_commonExp_left (x y : Dec) : alignedCoef (commonExp x y) x = alignTo x y := rfl

theorem alignedCoef_commonExp_right (x y : Dec) : alignedCoef (commonExp x y) y = alignTo y x := by
  rw [commonExp, min_comm, ← commonExp, alignedCoef_commonExp_left]

theorem performRfrac_eq (b l : Nat) (lo hi : Dec) (s : Sized.State opW coefW expW) :
    performRfrac b l lo hi s = s.answered (lcgIter (b * l) s.STATE)
      (okResponse (BitVec.ofInt coefW (scaledCoef b lo hi (blockValue b l s.STATE)))
        (BitVec.ofInt expW (scaledExp b lo hi))) := by
  rw [performRfrac, genVal_fst, genVal_snd, alignedCoef_commonExp_left, alignedCoef_commonExp_right, fracBits,
    Nat.cast_mul]
  rfl

theorem exec_rfrac_of_le {b : Nat} (l : Nat) {s : State} (hb : b ≠ 0)
    (h : alignTo (decOn s.OPA) (decOn s.OPB) ≤ alignTo (decOn s.OPB) (decOn s.OPA)) :
    exec (.rfrac b l) s = .next (s.answered (lcgIter (b * l) s.STATE)
      (okResponse (BitVec.ofInt 4608 (scaledCoef b (decOn s.OPA) (decOn s.OPB) (blockValue b l s.STATE)))
        (BitVec.ofInt 16 (scaledExp b (decOn s.OPA) (decOn s.OPB))))) := by
  have hcheck : checkRfrac b (decOn s.OPA) (decOn s.OPB) = none := by
    rw [checkRfrac, alignedCoef_commonExp_left, alignedCoef_commonExp_right]
    exact (checkBlocksThenRange_eq_none_iff b _ _).mpr ⟨hb, h⟩
  rw [exec, execRfrac, execRfracWith, rfracBound_eq, rfracBound_eq, decAt_listed, decAt_listed, hcheck, guarded_none,
    performRfrac_eq]

/-! ### No layers, no transition -/

theorem blockValue_zero_layers (b : Nat) (st : GenWord) :
    blockValue b 0 st = ∑ i ∈ Finset.range b, st.toNat * 2 ^ (64 * i) :=
  Finset.sum_range_reflect (fun i => st.toNat * 2 ^ (64 * i)) b

/-! ### SEED's operand -/

/-- A number wider than the operand is reduced (R104). -/
theorem seedOperand_ofNat (n : Nat) : seedOperand (BitVec.ofNat 576 n) = BitVec.ofNat 64 (n % 2 ^ 64) := by
  apply BitVec.eq_of_toNat_eq
  simp only [seedOperand, busField, BitVec.extractLsb'_toNat, BitVec.toNat_ofNat, Nat.shiftRight_zero]
  omega

/-! ### The statements -/

/-- Settles O7: reducing once is wrapping, and a word is written back before the next is drawn. -/
theorem lcgTransitionAndWord : Obligations.LcgTransitionAndWord :=
  ⟨lcg_toNat, lcg_eq_mul_add, lcgIter_zero, lcgIter_succ, fun _ _ => ⟨rfl, rfl⟩⟩

/-- Settles O11: SEED's effect from its operand, and its one word among those with OP = 1. -/
theorem seedConstructsGenerator : Obligations.SeedConstructsGenerator := by
  have hwide (s : State) (n : Nat) (h : s.OPA = BitVec.ofNat 576 n) :
      exec .seed s = .next (s.answered (BitVec.ofNat 64 (n % 2 ^ 64)) (okResponse 0 0)) := by
    rw [exec_seed, h, seedOperand_ofNat]
  refine ⟨exec_seed, fun s hp hw => ?_, fun s hp hop hw => ?_, hwide, by decide, fun s h => hwide s _ h⟩
  · have hd : decode s.CMD = .legal .seed := (decode_eq_seed_iff _).mpr (congrArg BitVec.toNat hw)
    rw [step_of_legal hp hd, exec_seed, thenHost_next]
    rfl
  · exact step_of_illegal hp (decode_illegal_of_seed_op (congrArg BitVec.toNat hop) hw)

/-- Settles O12: RAW's effect for every L, the word's fields under the mask, and R73's line for BLOCKS. -/
theorem rawGeneratesWord : Obligations.RawGeneratesWord := by
  refine ⟨exec_raw, fun s hp hmask => ?_, fun s hp hop hb => ?_, exec_raw 0, by decide, by decide, by decide⟩
  · rw [step_of_legal hp (decode_raw_of_mask hmask), exec_raw, thenHost_next]
    rfl
  · have hop : opField s.CMD = 2 := congrArg BitVec.toNat hop
    have hb : blocksField s.CMD ≠ 0 := fun h => hb (BitVec.eq_of_toNat_eq h)
    exact step_of_illegal hp ((decode_illegal_iff _).mpr (by simp [hop, hb]))

/-- Settles O13: each command's answer for every L, at L = 0, where every word drawn is STATE. -/
theorem zeroLayersIsIdentity : Obligations.ZeroLayersIsIdentity := by
  refine ⟨exec_raw 0, fun s h => exec_rint_of_le 0 h, fun b s hb h => ?_, fun b s hb h => ?_⟩
  · rw [exec_rbig_of_le 0 hb h, blockValue_zero_layers, Nat.mul_zero, lcgIter_zero]
  · rw [exec_rfrac_of_le 0 hb h, blockValue_zero_layers, Nat.mul_zero, lcgIter_zero]

end Sys2Proof.Machine

/-! PROOFS. The range-mapping family (41_range_mapping.md): span (R120), the value of B words (R125), RINT (R122, R123),
and RBIG (R126, R127). -/

namespace Sys2Proof

/-! ### Words of RINT and RBIG under their masks -/

theorem decode_rint_of_mask {w : CmdWord} (h : w &&& 0xFFFF00FF#32 = 0x00000003#32) :
    decode w = .legal (.rint (layersField w)) := by
  obtain ⟨hop, hrsv0, hblocks, hrsv1⟩ :
      opField w = 3 ∧ rsv0Field w = 0 ∧ blocksField w = 0 ∧ rsv1Field w = 0 := fields_of_layersMask h
  simp [decode, unlessBlocks, hop, hrsv0, hblocks, hrsv1]

/-- The pattern of a command with both counts fixes OP and the reserved fields (R64). -/
theorem fields_of_countsMask {w v : CmdWord} (h : w &&& 0xFFF000FF#32 = v) :
    opField w = opField v ∧ rsv0Field w = rsv0Field v ∧ rsv1Field w = rsv1Field v :=
  ⟨congrArg BitVec.toNat (extractLsb'_of_masked h (by decide)),
    congrArg BitVec.toNat (extractLsb'_of_masked h (by decide)),
    congrArg BitVec.toNat (extractLsb'_of_masked h (by decide))⟩

theorem decode_rbig_of_mask {w : CmdWord} (h : w &&& 0xFFF000FF#32 = 0x00000004#32) :
    decode w = .legal (.rbig (blocksField w) (layersField w)) := by
  obtain ⟨hop, hrsv0, hrsv1⟩ : opField w = 4 ∧ rsv0Field w = 0 ∧ rsv1Field w = 0 := fields_of_countsMask h
  simp [decode, hop, hrsv0, hrsv1]

end Sys2Proof

namespace Sys2Proof.Machine

open Sys2Proof Sys2Proof.Config

variable {opW coefW expW : Nat}

/-! ### The span of two bounds -/

/-- Bounds of w bits span at most 2^w values (R120). -/
theorem span_signedField_le (lo w : Nat) (a b : BitVec opW) :
    span (signedField lo w a) (signedField lo w b) ≤ 2 ^ w := by
  have hlow : -2 ^ w ≤ 2 * signedField lo w a := BitVec.le_two_mul_toInt
  have hhigh : 2 * signedField lo w b < 2 ^ w := BitVec.two_mul_toInt_lt
  unfold span
  omega

/-! ### The value drawn -/

/-- B words fill 64 B bits (R125). -/
theorem blockValue_lt (b l : Nat) (st : GenWord) : blockValue b l st < 2 ^ (64 * b) := by
  induction b generalizing st with
  | zero => simp [blockValue]
  | succ b ih =>
    have hword : (lcgIter l st).toNat + 1 ≤ 2 ^ 64 := (lcgIter l st).isLt
    calc blockValue (b + 1) l st
        = (lcgIter l st).toNat * 2 ^ (64 * b) + blockValue b l (lcgIter l st) := blockValue_succ b l st
      _ < ((lcgIter l st).toNat + 1) * 2 ^ (64 * b) := by
        rw [Nat.add_one_mul (lcgIter l st).toNat]
        exact Nat.add_lt_add_left (ih _) _
      _ ≤ 2 ^ 64 * 2 ^ (64 * b) := Nat.mul_le_mul_right _ hword
      _ = 2 ^ (64 * (b + 1)) := by ring

/-- A span that holds every value of B words leaves the value as it is (R127). -/
theorem blockValue_emod_of_le {b : Nat} {n : Int} (h : 2 ^ (64 * b) ≤ n) (l : Nat) (st : GenWord) :
    (blockValue b l st : Int) % n = blockValue b l st := by
  have hlt : (blockValue b l st : Int) < 2 ^ (64 * b) := mod_cast blockValue_lt b l st
  exact Int.emod_eq_of_lt (Int.natCast_nonneg _) (hlt.trans_le h)

/-! ### The result on the bus -/

/-- A result between two bounds of w bits is read back from COEF as it is (R71). -/
theorem signExtend_ofInt_toInt_of_between {w : Nat} {x y : BitVec w} {r : Int} (hx : x.toInt ≤ r) (hy : r ≤ y.toInt)
    (hw : w ≤ coefW) : ((BitVec.ofInt w r).signExtend coefW).toInt = r := by
  have hlow : -2 ^ w ≤ 2 * x.toInt := BitVec.le_two_mul_toInt
  have hhigh : 2 * y.toInt < 2 ^ w := BitVec.two_mul_toInt_lt
  rw [BitVec.toInt_signExtend_of_le hw, BitVec.toInt_ofInt]
  apply Int.bmod_eq_of_le_mul_two <;> push_cast <;> omega

/-! ### A command that fails its checks -/

theorem checkRange_of_lt {low high : Int} (h : high < low) : checkRange low high = some .invalidRange := if_pos h

@[simp] theorem guarded_some (e : Status) (s : Sized.State opW coefW expW)
    (f : Sized.State opW coefW expW → Sized.State opW coefW expW) :
    guarded (some e) s f = .next (s.answered s.STATE (errorResponse e)) := rfl

theorem exec_rint_of_lt (l : Nat) {s : State}
    (h : (s.OPB.extractLsb' 0 64).toInt < (s.OPA.extractLsb' 0 64).toInt) :
    exec (.rint l) s = .next (s.answered s.STATE (errorResponse .invalidRange)) := by
  have hcheck : checkRange (rintBound s.OPA) (rintBound s.OPB) = some .invalidRange := checkRange_of_lt h
  rw [exec, execRint, hcheck, guarded_some]

theorem exec_rbig_zero_blocks (l : Nat) (s : State) :
    exec (.rbig 0 l) s = .next (s.answered s.STATE (errorResponse .invalidBlocks)) := by
  rw [exec, execRbig, execRbigWith, checkBlocksThenRange_zero, guarded_some]

theorem exec_rbig_of_lt {b : Nat} (l : Nat) {s : State} (hb : b ≠ 0)
    (h : (s.OPB.extractLsb' 0 512).toInt < (s.OPA.extractLsb' 0 512).toInt) :
    exec (.rbig b l) s = .next (s.answered s.STATE (errorResponse .invalidRange)) := by
  have hcheck : checkRange (rbigBound Params.listed s.OPA) (rbigBound Params.listed s.OPB) = some .invalidRange :=
    checkRange_of_lt h
  rw [exec, execRbig, execRbigWith, checkBlocksThenRange_pos hb, hcheck, guarded_some]

/-! ### Equal, widest and under-sized ranges -/

/-- Equal bounds: span is 1, and every word is mapped to the bound (R123). -/
theorem exec_rint_of_eq (l : Nat) {s : State}
    (h : (s.OPA.extractLsb' 0 64).toInt = (s.OPB.extractLsb' 0 64).toInt) :
    exec (.rint l) s = .next (s.answered (lcgIter l s.STATE)
      (okResponse ((BitVec.ofInt 64 (s.OPA.extractLsb' 0 64).toInt).signExtend 4608) 0)) := by
  rw [exec_rint_of_le l h.le, ← h, sub_self, zero_add, Int.emod_one, add_zero]

theorem exec_rbig_of_eq {b : Nat} (l : Nat) {s : State} (hb : b ≠ 0)
    (h : (s.OPA.extractLsb' 0 512).toInt = (s.OPB.extractLsb' 0 512).toInt) :
    exec (.rbig b l) s = .next (s.answered (lcgIter (b * l) s.STATE)
      (okResponse ((BitVec.ofInt 512 (s.OPA.extractLsb' 0 512).toInt).signExtend 4608) 0)) := by
  rw [exec_rbig_of_le l hb h.le, ← h, sub_self, zero_add, Int.emod_one, add_zero]

/-- A span of 2^64 leaves the word as it is (R122). -/
theorem exec_rint_of_full_span (l : Nat) {s : State}
    (h : (s.OPB.extractLsb' 0 64).toInt - (s.OPA.extractLsb' 0 64).toInt + 1 = 2 ^ 64) :
    exec (.rint l) s = .next (s.answered (lcgIter l s.STATE)
      (okResponse ((BitVec.ofInt 64 ((s.OPA.extractLsb' 0 64).toInt + ((lcgIter l s.STATE).toNat : Int))).signExtend
        4608) 0)) := by
  have hword : ((lcgIter l s.STATE).toNat : Int) < 2 ^ 64 := mod_cast (lcgIter l s.STATE).isLt
  rw [exec_rint_of_le l (by omega), h, Int.emod_eq_of_lt (Int.natCast_nonneg _) hword]

/-- A span of 2^(64 B) or more leaves the value as it is (R126, R127). -/
theorem exec_rbig_of_span_ge {b : Nat} (l : Nat) {s : State} (hb : b ≠ 0)
    (h : 2 ^ (64 * b) ≤ (s.OPB.extractLsb' 0 512).toInt - (s.OPA.extractLsb' 0 512).toInt + 1) :
    exec (.rbig b l) s = .next (s.answered (lcgIter (b * l) s.STATE)
      (okResponse ((BitVec.ofInt 512 ((s.OPA.extractLsb' 0 512).toInt + (blockValue b l s.STATE : Int))).signExtend
        4608) 0)) := by
  have hpos : (0 : Int) < 2 ^ (64 * b) := by positivity
  rw [exec_rbig_of_le l hb (by omega), blockValue_emod_of_le h]

/-! ### The statements -/

/-- Settles O17: a bound of w bits lies in [-2^(w-1), 2^(w-1) - 1]. -/
theorem spanIsExact : Obligations.SpanIsExact :=
  ⟨fun a b h => ⟨rfl, span_pos h, span_signedField_le 0 64 a b⟩,
    fun p _ a b _ h => ⟨rfl, span_pos h, span_signedField_le 0 p.bigW a b⟩⟩

/-- Settles O15: RINT's answer for each order of the bounds, the word's fields under the mask, R73's line for BLOCKS,
and the example. -/
theorem rintMapsWordIntoRange : Obligations.RintMapsWordIntoRange := by
  refine ⟨fun l s low high hlow hhigh => ?_, lcgIter_zero,
    fun s hp hmask => step_of_legal hp (decode_rint_of_mask hmask), fun s hp hop hb => ?_, fun s hst hA hB => ?_⟩
  · subst hlow hhigh
    refine ⟨fun h => ⟨exec_rint_of_le l h, ?_, ?_⟩, exec_rint_of_lt l, exec_rint_of_eq l,
      fun hlow hhigh => exec_rint_of_full_span l (by rw [hlow, hhigh]; norm_num)⟩
    · exact Int.emod_nonneg _ (span_pos h).ne'
    · exact Int.emod_lt_of_pos _ (span_pos h)
  · have hop : opField s.CMD = 3 := congrArg BitVec.toNat hop
    have hb : blocksField s.CMD ≠ 0 := fun h => hb (BitVec.eq_of_toNat_eq h)
    exact step_of_illegal hp ((decode_illegal_iff _).mpr (by simp [hop, hb]))
  · have hword : lcgIter 8 123456789 = 16381114972111820637#64 := by decide
    have hle : (s.OPA.extractLsb' 0 64).toInt ≤ (s.OPB.extractLsb' 0 64).toInt := by rw [hA, hB]; decide
    rw [exec_rint_of_le 8 hle, hA, hB, hst, hword]
    rfl

/-- Settles O18: the response is `low`, sign-extended, and the word is drawn. -/
theorem rintDegenerateRange : Obligations.RintDegenerateRange := by
  intro l s h
  refine ⟨_, exec_rint_of_eq l (congrArg BitVec.toInt h), rfl, rfl, ?_⟩
  exact signExtend_ofInt_toInt_of_between le_rfl le_rfl (by decide)

/-- Settles O19: the loop's value and STATE in closed form, by induction on the words. -/
theorem blocksConcatenateFirstWordHighest : Obligations.BlocksConcatenateFirstWordHighest := by
  intro b l s
  refine ⟨Prod.ext (genVal_fst b l s) (genVal_snd b l s), ?_⟩
  rw [genVal_fst]
  exact blockValue_lt b l s.STATE

/-- Settles O20: RBIG's answer for each outcome of its checks, the word's fields under the mask, and the example. -/
theorem rbigMapsWordsIntoRange : Obligations.RbigMapsWordsIntoRange := by
  refine ⟨fun b l s low high hlow hhigh => ?_, blockValue_zero_layers,
    fun s hp hmask => step_of_legal hp (decode_rbig_of_mask hmask), fun s hst hA hB => ?_⟩
  · subst hlow hhigh
    refine ⟨fun hb => hb ▸ exec_rbig_zero_blocks l s, exec_rbig_of_lt l, exec_rbig_of_le l, exec_rbig_of_eq l,
      fun hb hb8 hlow hhigh => exec_rbig_of_span_ge l hb ?_, fun hb h => exec_rbig_of_span_ge l hb h.le⟩
    have hspan : (2 : Int) ^ (64 * b) ≤ 2 ^ 512 := pow_le_pow_right₀ (by norm_num) (by omega)
    have hdouble : (2 : Int) ^ 512 = 2 ^ 511 * 2 := pow_succ 2 511
    omega
  · have hstate : lcgIter (2 * 8) 123456789 = 0x8B365DC737DE52A5#64 := by decide
    have hval : blockValue 2 8 123456789 = 0xE3556946B98ED75D8B365DC737DE52A5 := by decide
    have hspan : 2 ^ (64 * 2) ≤ (s.OPB.extractLsb' 0 512).toInt - (s.OPA.extractLsb' 0 512).toInt + 1 := by
      rw [hA, hB]; decide +kernel
    have hcoef :
        (BitVec.ofInt 512 ((0 : BitVec 512).toInt + (0xE3556946B98ED75D8B365DC737DE52A5 : Nat))).signExtend 4608 =
          BitVec.ofNat 4608 0xE3556946B98ED75D8B365DC737DE52A5 := by decide +kernel
    rw [exec_rbig_of_span_ge 8 (by decide) hspan, hA, hst, hstate, hval, hcoef]

/-- Settles O22: the value is below span, so it is added to `low` as it is, and the sum lies in the range. -/
theorem undersizedBlocksStayLow : Obligations.UndersizedBlocksStayLow := by
  intro b l s low high hlow hhigh hb hspan
  subst hlow hhigh
  have hval : (blockValue b l s.STATE : Int) < 2 ^ (64 * b) := mod_cast blockValue_lt b l s.STATE
  have hlow : (s.OPA.extractLsb' 0 512).toInt ≤ (s.OPA.extractLsb' 0 512).toInt + blockValue b l s.STATE := by omega
  have hhigh : (s.OPA.extractLsb' 0 512).toInt + blockValue b l s.STATE ≤ (s.OPB.extractLsb' 0 512).toInt := by omega
  have hcoef := signExtend_ofInt_toInt_of_between (coefW := 4608) hlow hhigh (by decide)
  exact ⟨_, exec_rbig_of_span_ge l hb hspan.le, rfl, hcoef, hlow.trans hcoef.ge, hcoef.le.trans (by omega)⟩

end Sys2Proof.Machine

/-! PROOFS. The precision-scaling family (42_precision_scaling.md): the aligned bounds (R151), the widths of the result
(R159), its exact value (R153, R156), and RFRAC (R155). -/

namespace Sys2Proof

theorem decode_rfrac_of_mask {w : CmdWord} (h : w &&& 0xFFF000FF#32 = 0x00000005#32) :
    decode w = .legal (.rfrac (blocksField w) (layersField w)) := by
  obtain ⟨hop, hrsv0, hrsv1⟩ : opField w = 5 ∧ rsv0Field w = 0 ∧ rsv1Field w = 0 := fields_of_countsMask h
  simp [decode, hop, hrsv0, hrsv1]

end Sys2Proof

namespace Sys2Proof.Machine

open Sys2Proof Sys2Proof.Config

variable {opW coefW expW : Nat}

/-! ### The aligned bounds -/

/-- The coefficient at a smaller exponent carries the same value (R151). -/
theorem Dec.value_eq_alignedCoef {e : Int} {x : Dec} (h : e ≤ x.exp) :
    x.value = (alignedCoef e x : ℚ) * 10 ^ e := by
  have hsplit : (10 : ℚ) ^ x.exp = 10 ^ (x.exp - e).toNat * 10 ^ e := by
    rw [← zpow_natCast, Int.toNat_of_nonneg (sub_nonneg.mpr h), ← zpow_add₀ (by norm_num), sub_add_cancel]
  rw [Dec.value, hsplit, alignedCoef, pow10]
  push_cast
  ring

theorem Dec.value_eq_alignTo_left (x y : Dec) : x.value = (alignTo x y : ℚ) * 10 ^ min x.exp y.exp :=
  Dec.value_eq_alignedCoef (min_le_left _ _)

theorem Dec.value_eq_alignTo_right (x y : Dec) : y.value = (alignTo y x : ℚ) * 10 ^ min x.exp y.exp :=
  min_comm x.exp y.exp ▸ Dec.value_eq_alignTo_left y x

/-- Aligned coefficients compare as the values do (R151). -/
theorem alignTo_lt_alignTo_iff (x y : Dec) : alignTo y x < alignTo x y ↔ y.value < x.value := by
  have hpos : (0 : ℚ) < 10 ^ min x.exp y.exp := by positivity
  rw [Dec.value_eq_alignTo_left x y, Dec.value_eq_alignTo_right x y, mul_lt_mul_iff_left₀ hpos, Int.cast_lt]

theorem alignTo_le_alignTo_iff (x y : Dec) : alignTo x y ≤ alignTo y x ↔ x.value ≤ y.value := by
  rw [← not_lt, alignTo_lt_alignTo_iff, not_lt]

/-- The smaller of two 8-bit exponents is one of them (R151). -/
theorem commonExp_decOn_between (x y : OperandBus) :
    -128 ≤ commonExp (decOn x) (decOn y) ∧ commonExp (decOn x) (decOn y) ≤ 127 := by
  have hx : -128 ≤ (decOn x).exp := BitVec.le_toInt _
  have hy : -128 ≤ (decOn y).exp := BitVec.le_toInt _
  have hlt : (decOn x).exp < 128 := BitVec.toInt_lt
  unfold commonExp
  omega

/-! ### RFRAC's checks -/

theorem exec_rfrac_zero_blocks (l : Nat) (s : State) :
    exec (.rfrac 0 l) s = .next (s.answered s.STATE (errorResponse .invalidBlocks)) := by
  rw [exec, execRfrac, execRfracWith, checkRfrac, checkBlocksThenRange_zero, guarded_some]

theorem exec_rfrac_of_lt {b : Nat} (l : Nat) {s : State} (hb : b ≠ 0)
    (h : (decOn s.OPB).value < (decOn s.OPA).value) :
    exec (.rfrac b l) s = .next (s.answered s.STATE (errorResponse .invalidRange)) := by
  have hcheck : checkRfrac b (decOn s.OPA) (decOn s.OPB) = some .invalidRange := by
    rw [checkRfrac, alignedCoef_commonExp_left, alignedCoef_commonExp_right, checkBlocksThenRange_pos hb,
      checkRange_of_lt ((alignTo_lt_alignTo_iff _ _).mpr h)]
  rw [exec, execRfrac, execRfracWith, rfracBound_eq, rfracBound_eq, decAt_listed, decAt_listed, hcheck, guarded_some]

/-- The response of an RFRAC that draws val: the pair (N, e - n) (R155, R156). -/
def rfracResponse (b : Nat) (lo hi : Dec) (val : Nat) : Sized.Response coefW expW :=
  okResponse (BitVec.ofInt coefW (scaledCoef b lo hi val)) (BitVec.ofInt expW (scaledExp b lo hi))

@[simp] theorem rfracResponse_STATUS (b : Nat) (lo hi : Dec) (val : Nat) :
    (rfracResponse b lo hi val : Sized.Response coefW expW).STATUS = 0 := rfl

theorem exec_rfrac_of_value_le {b : Nat} (l : Nat) {s : State} (hb : b ≠ 0)
    (h : (decOn s.OPA).value ≤ (decOn s.OPB).value) :
    exec (.rfrac b l) s = .next (s.answered (lcgIter (b * l) s.STATE)
      (rfracResponse b (decOn s.OPA) (decOn s.OPB) (blockValue b l s.STATE))) :=
  exec_rfrac_of_le l hb ((alignTo_le_alignTo_iff _ _).mpr h)

/-- A response of status OK is the pair computed from ordered bounds. -/
theorem exec_rfrac_ok {b l : Nat} {s t : State} {r : Response} (h : exec (.rfrac b l) s = .next t)
    (hr : t.responses = s.responses ++ [r]) (hok : r.STATUS = 0) :
    (decOn s.OPA).value ≤ (decOn s.OPB).value ∧
      r = rfracResponse b (decOn s.OPA) (decOn s.OPB) (blockValue b l s.STATE) := by
  have hread {st : GenWord} {r' : Response} (h' : exec (.rfrac b l) s = .next (s.answered st r')) : r = r' := by
    cases h'.symm.trans h
    simpa using hr.symm
  rcases eq_or_ne b 0 with rfl | hb
  · rw [hread (exec_rfrac_zero_blocks l s)] at hok
    exact absurd hok (by decide)
  · rcases lt_or_ge (decOn s.OPB).value (decOn s.OPA).value with hlt | hle
    · rw [hread (exec_rfrac_of_lt l hb hlt)] at hok
      exact absurd hok (by decide)
    · exact ⟨hle, hread (exec_rfrac_of_value_le l hb hle)⟩

/-! ### The result fits its bus -/

/-- Exponents of w bits differ by at most 2^w - 1 (R159 (a)). -/
theorem decAt_exp_sub_min_le (p : Params) (x y : BitVec opW) :
    ((decAt p x).exp - min (decAt p x).exp (decAt p y).exp).toNat ≤ 2 ^ p.decExpW - 1 := by
  have hlow : -2 ^ p.decExpW ≤ 2 * (decAt p x).exp := BitVec.le_two_mul_toInt
  have hhigh : 2 * (decAt p x).exp < 2 ^ p.decExpW := BitVec.two_mul_toInt_lt
  have hother : -2 ^ p.decExpW ≤ 2 * (decAt p y).exp := BitVec.le_two_mul_toInt
  have hcast : ((2 ^ p.decExpW : Nat) : Int) = 2 ^ p.decExpW := by push_cast; rfl
  omega

/-- The bound on the aligned coefficients (R159 (a)). -/
theorem abs_alignTo_le (p : Params) (x y : BitVec opW) :
    |alignTo (decAt p x) (decAt p y)| ≤ 2 ^ (p.decCoefW - 1) * 10 ^ (2 ^ p.decExpW - 1) := by
  have hcoef : |(decAt p x).coef| ≤ 2 ^ (p.decCoefW - 1) := abs_le.mpr ⟨BitVec.le_toInt _, BitVec.toInt_lt.le⟩
  rw [alignTo, abs_mul, Nat.abs_cast]
  push_cast
  exact mul_le_mul hcoef (pow_le_pow_right₀ (by norm_num) (decAt_exp_sub_min_le p x y)) (by positivity) (by positivity)

/-- A mean of m and x with weights n - v and v (R159 (b)). -/
theorem abs_mul_add_sub_mul_le {m x c n v : Int} (hm : |m| ≤ c) (hx : |x| ≤ c) (h0 : 0 ≤ v) (hv : v ≤ n) :
    |m * n + (x - m) * v| ≤ c * n :=
  calc |m * n + (x - m) * v| = |m * (n - v) + x * v| := by ring_nf
    _ ≤ |m * (n - v)| + |x * v| := abs_add_le _ _
    _ = |m| * (n - v) + |x| * v := by rw [abs_mul, abs_mul, abs_of_nonneg (sub_nonneg.mpr hv), abs_of_nonneg h0]
    _ ≤ c * (n - v) + c * v := by gcongr
    _ = c * n := by ring

/-- The bound on the result's coefficient (R159 (b)). -/
theorem abs_scaledCoef_le (p : Params) {b val : Nat} (hval : val ≤ 2 ^ (64 * b)) (x y : BitVec opW) :
    |scaledCoef b (decAt p x) (decAt p y) val| ≤ 2 ^ (p.decCoefW - 1) * 10 ^ (2 ^ p.decExpW - 1 + 64 * b) := by
  have hmean := abs_mul_add_sub_mul_le (abs_alignTo_le p x y) (abs_alignTo_le p y x) (Int.natCast_nonneg val)
    (Int.ofNat_le.mpr hval)
  have hten : (10 : Int) ^ (64 * b) = 2 ^ (64 * b) * 5 ^ (64 * b) := by rw [← mul_pow]; norm_num
  rw [scaledCoef, abs_mul, Nat.abs_cast, pow_add, ← mul_assoc, hten, ← mul_assoc]
  push_cast at hmean ⊢
  gcongr

theorem toInt_ofInt_of_abs_lt {w : Nat} (hw : 0 < w) {n : Int} (h : |n| < 2 ^ (w - 1)) :
    (BitVec.ofInt w n).toInt = n :=
  BitVec.toInt_ofInt_eq_self hw (abs_lt.mp h).1.le (abs_lt.mp h).2

/-- COEF reads back as N (R159). -/
theorem rfracResponse_COEF_toInt {p : Params} (hp : p.Valid) {b val : Nat} (hb : b ≤ 15) (hval : val ≤ 2 ^ (64 * b))
    (x y : BitVec opW) :
    (rfracResponse b (decAt p x) (decAt p y) val : Sized.Response p.resCoefW expW).COEF.toInt =
      scaledCoef b (decAt p x) (decAt p y) val := by
  obtain ⟨hbig, -, hbigRes, -, -, -, hcoef, -⟩ := hp
  refine toInt_ofInt_of_abs_lt (by omega) ?_
  calc |scaledCoef b (decAt p x) (decAt p y) val|
      ≤ 2 ^ (p.decCoefW - 1) * 10 ^ (2 ^ p.decExpW - 1 + 64 * b) := abs_scaledCoef_le p hval x y
    _ ≤ 2 ^ (p.decCoefW - 1) * 10 ^ (2 ^ p.decExpW - 1 + 64 * 15) := by gcongr; norm_num
    _ < 2 ^ (p.resCoefW - 1) := mod_cast hcoef

/-- EXP reads back as e - n (R159 (c)). -/
theorem rfracResponse_EXP_toInt {p : Params} (hp : p.Valid) {b : Nat} (hb : b ≤ 15) (val : Nat) (x y : BitVec opW) :
    (rfracResponse b (decAt p x) (decAt p y) val : Sized.Response coefW p.resExpW).EXP.toInt =
      scaledExp b (decAt p x) (decAt p y) := by
  obtain ⟨-, -, -, -, -, -, -, hexp⟩ := hp
  have hwidth : 0 < p.resExpW := by
    by_contra h
    simp [Nat.eq_zero_of_not_pos h] at hexp
  have hx : -2 ^ (p.decExpW - 1) ≤ (decAt p x).exp := BitVec.le_toInt _
  have hy : -2 ^ (p.decExpW - 1) ≤ (decAt p y).exp := BitVec.le_toInt _
  have hlt : (decAt p x).exp < 2 ^ (p.decExpW - 1) := BitVec.toInt_lt
  have hexp : (2 : Int) ^ (p.decExpW - 1) + 64 * 15 < 2 ^ (p.resExpW - 1) := mod_cast hexp
  refine toInt_ofInt_of_abs_lt hwidth (abs_lt.mpr ?_)
  unfold scaledExp
  omega

/-! ### The exact value -/

/-- The pair (N, e - n) has the value min_val + (max_val - min_val) * val / 2^n (R156). -/
theorem scaledCoef_mul_zpow_scaledExp (b : Nat) (lo hi : Dec) (val : Nat) :
    (scaledCoef b lo hi val : ℚ) * 10 ^ scaledExp b lo hi =
      lo.value + (hi.value - lo.value) * (val / 2 ^ (64 * b)) := by
  have hexp : (10 : ℚ) ^ scaledExp b lo hi = 10 ^ min lo.exp hi.exp / (2 ^ (64 * b) * 5 ^ (64 * b)) := by
    have hn : (64 * (b : Int)) = ((64 * b : Nat) : Int) := by push_cast; rfl
    rw [scaledExp, zpow_sub₀ (by norm_num), hn, zpow_natCast, ← mul_pow]
    norm_num
  rw [hexp, Dec.value_eq_alignTo_left lo hi, Dec.value_eq_alignTo_right lo hi, scaledCoef]
  push_cast
  field_simp

/-- The response has exactly the value of R153, in every realisation (R156, R159). -/
theorem rfracResponse_value {p : Params} (hp : p.Valid) {b val : Nat} (hb : b ≤ 15) (hval : val ≤ 2 ^ (64 * b))
    (x y : BitVec opW) :
    (rfracResponse b (decAt p x) (decAt p y) val : Sized.Response p.resCoefW p.resExpW).value =
      (decAt p x).value + ((decAt p y).value - (decAt p x).value) * (val / 2 ^ (64 * b)) := by
  rw [Sized.Response.value, rfracResponse_COEF_toInt hp hb hval, rfracResponse_EXP_toInt hp hb,
    scaledCoef_mul_zpow_scaledExp]

theorem rfracResponse_decOn_value {b : Nat} (hb : b ≤ 15) (l : Nat) (st : GenWord) (x y : OperandBus) :
    (rfracResponse b (decOn x) (decOn y) (blockValue b l st) : Response).value =
      (decOn x).value + ((decOn y).value - (decOn x).value) * (blockValue b l st / 2 ^ (64 * b)) := by
  have h := rfracResponse_value (p := .listed) listed_valid hb (blockValue_lt b l st).le x y
  rwa [decAt_listed, decAt_listed] at h

theorem blockValue_div_nonneg (b l : Nat) (st : GenWord) : (0 : ℚ) ≤ blockValue b l st / 2 ^ (64 * b) := by
  positivity

/-- The fraction drawn is at most 1 - 2^-n (R152). -/
theorem blockValue_div_le (b l : Nat) (st : GenWord) :
    (blockValue b l st : ℚ) / 2 ^ (64 * b) ≤ 1 - 1 / 2 ^ (64 * b) := by
  have hval : (blockValue b l st : ℚ) + 1 ≤ 2 ^ (64 * b) := mod_cast blockValue_lt b l st
  rw [le_sub_iff_add_le, ← add_div]
  exact div_le_one_of_le₀ hval (by positivity)

theorem blockValue_div_lt_one (b l : Nat) (st : GenWord) : (blockValue b l st : ℚ) / 2 ^ (64 * b) < 1 :=
  (blockValue_div_le b l st).trans_lt (sub_lt_self 1 (by positivity))

/-! ### The statements -/

/-- Settles O25: both coefficients are taken at the smaller exponent, so they compare as the values do. -/
theorem alignedBoundsCompareAsValues : Obligations.AlignedBoundsCompareAsValues := by
  intro b l s lo hi e hlo hhi he
  subst hlo hhi he
  obtain ⟨hlow, hhigh⟩ := commonExp_decOn_between s.OPA s.OPB
  have hiff : alignedCoef (commonExp (decOn s.OPA) (decOn s.OPB)) (decOn s.OPB) <
      alignedCoef (commonExp (decOn s.OPA) (decOn s.OPB)) (decOn s.OPA) ↔
      (decOn s.OPB).value < (decOn s.OPA).value := by
    rw [alignedCoef_commonExp_left, alignedCoef_commonExp_right, alignTo_lt_alignTo_iff]
  exact ⟨rfl, hlow, hhigh, Dec.value_eq_alignedCoef (min_le_left _ _), Dec.value_eq_alignedCoef (min_le_right _ _),
    hiff, fun hb h => exec_rfrac_of_lt l hb (hiff.mp h)⟩

/-- Settles O57: the value of the pair (N, e - n), with `val / 2^n` as the fraction. -/
theorem listedRfracValueIsExact : Obligations.ListedRfracValueIsExact := by
  intro b l s hb hb15 hle
  exact ⟨_, _, exec_rfrac_of_value_le l hb hle, rfl, rfl, blockValue_div_nonneg b l s.STATE,
    blockValue_div_le b l s.STATE, blockValue_div_lt_one b l s.STATE,
    rfracResponse_decOn_value hb15 l s.STATE s.OPA s.OPB⟩

/-- Settles O26: RFRAC's answer for each outcome of its checks, its value at the ends of the range, the word's fields under
the mask, and the example. -/
theorem rfracScalesExactly : Obligations.RfracScalesExactly := by
  refine ⟨fun b l s lo hi hlo hhi => ?_, fun b l s t r hb15 hexec hresp hok => ?_, blockValue_zero_layers,
    fun s hp hmask => step_of_legal hp (decode_rfrac_of_mask hmask), fun s hst hA hB => ?_⟩
  · subst hlo hhi
    exact ⟨fun hb => hb ▸ exec_rfrac_zero_blocks l s, exec_rfrac_of_lt l, exec_rfrac_of_value_le l⟩
  · obtain ⟨-, rfl⟩ := exec_rfrac_ok hexec hresp hok
    rw [rfracResponse_decOn_value hb15]
    have hfrac := blockValue_div_lt_one b l s.STATE
    refine ⟨fun h => ?_, fun h => ?_, fun h => ?_, fun h => ?_⟩
    · simp [h]
    · rw [h]
      push_cast [Nat.one_le_two_pow]
      field_simp
      ring
    · have hgap := mul_lt_of_lt_one_right (sub_pos.mpr h) hfrac
      exact (lt_sub_iff_add_lt'.mp hgap).ne
    · rw [h, sub_self, zero_mul, add_zero]
  · have hstate : lcgIter (1 * 8) 123456789 = 16381114972111820637#64 := by decide
    have hval : blockValue 1 8 123456789 = 16381114972111820637 := by decide
    have hle : (decOn s.OPA).value ≤ (decOn s.OPB).value := by rw [hA, hB]; norm_num [Dec.value]
    have hresp : (rfracResponse 1 ⟨0, 0⟩ ⟨1, 0⟩ 16381114972111820637 : Response) =
        okResponse (BitVec.ofNat 4608 8880220220249229657227992007495487314372439868748188018798828125)
          (BitVec.ofInt 16 (-64)) := by decide +kernel
    rw [exec_rfrac_of_value_le 8 (by decide) hle, hA, hB, hst, hstate, hval, hresp]

end Sys2Proof.Machine

/-! PROOFS. Exceptions (60_exceptions.md): every command is answered as the block function `answer` says (R205), the
statuses in the order of R204, INVALID_BLOCKS (R207), INVALID_RANGE (R208), and an error's effect (R209). -/

namespace Sys2Proof.Machine

open Sys2Proof Sys2Proof.Config

variable {opW coefW expW : Nat}

/-! ### A command answers what the block function says -/

/-- s after the command whose answer is a pair of STATE and response, as the block function gives it. -/
abbrev Sized.State.answeredBy (s : Sized.State opW coefW expW) (a : GenWord × Sized.Response coefW expW) :
    Sized.State opW coefW expW := s.answered a.1 a.2

theorem execRint_eq_answerRint (l : Nat) (s : Sized.State opW coefW expW) :
    execRint l s = .next (s.answeredBy (answerRint l (rintBound s.OPA) (rintBound s.OPB) s.STATE)) := by
  unfold execRint checkRange answerRint
  split_ifs <;> rfl

theorem execRbigWith_eq_answerRbig (p : Params) (b l : Nat) (s : Sized.State opW coefW expW) :
    execRbigWith p b l s = .next
      (s.answeredBy (answerRbig p.bigW b l (rbigBound p s.OPA) (rbigBound p s.OPB) s.STATE)) := by
  unfold execRbigWith answerRbig
  split_ifs with hb hlt
  · rw [hb, checkBlocksThenRange_zero, guarded_some]
  · rw [checkBlocksThenRange_pos hb, checkRange_of_lt hlt, guarded_some]
  · rw [(checkBlocksThenRange_eq_none_iff _ _ _).mpr ⟨hb, not_lt.mp hlt⟩, guarded_none, performRbig_eq]

theorem execRfracWith_eq_answerRfrac (p : Params) (b l : Nat) (s : Sized.State opW coefW expW) :
    execRfracWith p b l s = .next (s.answeredBy (answerRfrac b l (decAt p s.OPA) (decAt p s.OPB) s.STATE)) := by
  rw [execRfracWith, checkRfrac, alignedCoef_commonExp_left, alignedCoef_commonExp_right, rfracBound_eq, rfracBound_eq]
  unfold answerRfrac
  split_ifs with hb hlt
  · rw [hb, checkBlocksThenRange_zero, guarded_some]
  · rw [checkBlocksThenRange_pos hb, checkRange_of_lt hlt, guarded_some]
  · rw [(checkBlocksThenRange_eq_none_iff _ _ _).mpr ⟨hb, not_lt.mp hlt⟩, guarded_none, performRfrac_eq]

/-- In every realisation an instruction does what the block function says of the word it was decoded from (R19). -/
theorem execWith_eq_answerWith {p : Params} {i : Instr} {s : StateFor p} (hd : decode s.CMD = .legal i) :
    execWith p i s = .next (s.answeredBy (answerWith p s.STATE s.ports.command)) := by
  have hd : decode s.ports.command.CMD = .legal i := hd
  rw [answerWith, hd]
  cases i with
  | seed => rfl
  | raw l => rfl
  | rint l => exact execRint_eq_answerRint l s
  | rbig b l => exact execRbigWith_eq_answerRbig p b l s
  | rfrac b l => exact execRfracWith_eq_answerRfrac p b l s

/-- A presented command is answered by the block function, and the host goes on (R205). -/
theorem stepWith_eq_answerWith {p : Params} {s : StateFor p} (hp : s.Presents) :
    stepWith p s = .next (hostAdvance (s.answeredBy (answerWith p s.STATE s.ports.command))) := by
  obtain ⟨hR, -⟩ | ⟨-, -, ⟨i, hd, h⟩ | ⟨why, hd, h⟩⟩ | ⟨-, hq, -⟩ := blockStep_cases (execWith p) s
  · exact absurd (hp.1.symm.trans hR) (by decide)
  · exact h.trans (congrArg thenHost (execWith_eq_answerWith hd))
  · have hd : decode s.ports.command.CMD = .illegal why := hd
    rw [answerWith, hd]
    exact h
  · exact absurd (hp.2.symm.trans hq) (by decide)

theorem step_eq_answer {s : State} (hp : s.Presents) :
    step s = .next (hostAdvance (s.answeredBy (answer s.STATE s.ports.command))) :=
  (step_eq_stepWith s).trans (stepWith_eq_answerWith hp)

/-! ### The status and the effect of the block function's answer -/

theorem answerRint_STATUS (l : Nat) (low high : Int) (st : GenWord) :
    (answerRint l low high st : GenWord × Sized.Response coefW expW).2.STATUS = if high < low then 3 else 0 := by
  unfold answerRint
  split_ifs <;> rfl

theorem answerRbig_STATUS (w b l : Nat) (low high : Int) (st : GenWord) :
    (answerRbig w b l low high st : GenWord × Sized.Response coefW expW).2.STATUS =
      if b = 0 then 2 else if high < low then 3 else 0 := by
  unfold answerRbig
  split_ifs <;> rfl

/-- RFRAC's range check is that of the decimal values (R208). -/
theorem answerRfrac_STATUS (b l : Nat) (lo hi : Dec) (st : GenWord) :
    (answerRfrac b l lo hi st : GenWord × Sized.Response coefW expW).2.STATUS =
      if b = 0 then 2 else if hi.value < lo.value then 3 else 0 := by
  simp only [answerRfrac, alignTo_lt_alignTo_iff]
  split_ifs <;> rfl

theorem answerRint_ok_or_error (l : Nat) (low high : Int) (st : GenWord) :
    (answerRint l low high st : GenWord × Sized.Response coefW expW).2.STATUS = 0 ∨
      ∃ e, answerRint l low high st = (st, (errorResponse e : Sized.Response coefW expW)) := by
  unfold answerRint
  split_ifs
  · exact .inr ⟨_, rfl⟩
  · exact .inl rfl

theorem answerRbig_ok_or_error (w b l : Nat) (low high : Int) (st : GenWord) :
    (answerRbig w b l low high st : GenWord × Sized.Response coefW expW).2.STATUS = 0 ∨
      ∃ e, answerRbig w b l low high st = (st, (errorResponse e : Sized.Response coefW expW)) := by
  unfold answerRbig
  split_ifs
  · exact .inr ⟨_, rfl⟩
  · exact .inr ⟨_, rfl⟩
  · exact .inl rfl

theorem answerRfrac_ok_or_error (b l : Nat) (lo hi : Dec) (st : GenWord) :
    (answerRfrac b l lo hi st : GenWord × Sized.Response coefW expW).2.STATUS = 0 ∨
      ∃ e, answerRfrac b l lo hi st = (st, (errorResponse e : Sized.Response coefW expW)) := by
  unfold answerRfrac
  split_ifs
  · exact .inr ⟨_, rfl⟩
  · exact .inr ⟨_, rfl⟩
  · exact .inl rfl

/-- An answer that is not OK leaves STATE and carries zeros (R209). -/
theorem answerWith_ok_or_error (p : Params) (st : GenWord) (c : Sized.Command p.opW) :
    (answerWith p st c).2.STATUS = 0 ∨ ∃ e, answerWith p st c = (st, errorResponse e) := by
  unfold answerWith
  cases decode c.CMD with
  | illegal why => exact .inr ⟨_, rfl⟩
  | legal i =>
    cases i with
    | seed => exact .inl rfl
    | raw l => exact .inl rfl
    | rint l => exact answerRint_ok_or_error l _ _ st
    | rbig b l => exact answerRbig_ok_or_error p.bigW b l _ _ st
    | rfrac b l => exact answerRfrac_ok_or_error b l _ _ st

/-- A command whose status is INVALID_RANGE exactly when P holds, and which then has the error's effect. -/
theorem invalidRange_iff {o : Host.Outcome State Fault Refusal} {s : State} {a : GenWord × Response} {P : Prop}
    [Decidable P] (ho : o = .next (s.answeredBy a)) (hstatus : a.2.STATUS = if P then 3 else 0)
    (herr : P → o = .next (s.answered s.STATE (errorResponse .invalidRange))) :
    o = .next (s.answered s.STATE (errorResponse .invalidRange)) ↔ P := by
  refine ⟨fun h => ?_, herr⟩
  have hresponse : a.2 = errorResponse .invalidRange := (answered_inj s _ _ (Host.Outcome.next.inj (ho.symm.trans h))).2
  by_contra hP
  rw [hresponse, if_neg hP] at hstatus
  exact absurd hstatus (by decide)

/-! ### The statements -/

/-- Settles O36: the status of each command's answer, and its answer when the bounds are reversed. -/
theorem reversedBoundsAreInvalid : Obligations.ReversedBoundsAreInvalid := by
  refine ⟨fun l s => ?_, fun b l s hb => ?_, fun b l s hb => ?_⟩
  · exact invalidRange_iff (execRint_eq_answerRint l s) (answerRint_STATUS l _ _ _) (exec_rint_of_lt l)
  · exact invalidRange_iff (execRbigWith_eq_answerRbig .listed b l s)
      ((answerRbig_STATUS _ b l _ _ _).trans (if_neg hb)) (exec_rbig_of_lt l hb)
  · exact invalidRange_iff (execRfracWith_eq_answerRfrac .listed b l s)
      ((answerRfrac_STATUS b l _ _ _).trans (if_neg hb)) (exec_rfrac_of_lt l hb)

/-- Settles O37: the one response is the block function's answer, whose status follows the order of R204. -/
theorem statusFollowsCheckOrder : Obligations.StatusFollowsCheckOrder := by
  intro s hp
  refine ⟨_, _, step_eq_answer hp, hostAdvance_responses _, fun why hd => ?_, fun hd => ?_, fun l hd => ?_,
    fun l hd => ?_, fun b l hd => ?_, fun b l hd => ?_⟩
  all_goals
    rw [Sized.State.CMD] at hd
    rw [answer, answerWith, hd]
  · rfl
  · rfl
  · rfl
  · exact answerRint_STATUS l _ _ _
  · exact answerRbig_STATUS _ b l _ _ _
  · exact answerRfrac_STATUS b l _ _ _

/-- Settles O38: the block function leaves STATE and answers zeros whenever its status is not OK. -/
theorem errorsHaveNoEffect : Obligations.ErrorsHaveNoEffect := by
  intro s t r hp hstep hresponses hstatus
  cases (step_eq_answer hp).symm.trans hstep
  have hr : (answer s.STATE s.ports.command).2 = r := by simpa using hresponses
  subst hr
  obtain hok | ⟨e, he⟩ := answerWith_ok_or_error Params.listed s.STATE s.ports.command
  · exact absurd hok hstatus
  · rw [answer, he]
    rfl

/-- Settles O35: B = 0 is checked before the range and before any word is drawn. -/
theorem zeroBlocksAreInvalid : Obligations.ZeroBlocksAreInvalid := by
  rintro s l hp (hd | hd)
  · rw [step_of_legal hp hd, exec_rbig_zero_blocks, thenHost_next]
  · rw [step_of_legal hp hd, exec_rfrac_zero_blocks, thenHost_next]

end Sys2Proof.Machine

/-! PROOFS. Reset (70_reset_and_hazards.md): with RESET asserted the block does nothing but load the reset value (R240,
R241). -/

namespace Sys2Proof.Machine

open Sys2Proof Sys2Proof.Config

/-- Reset comes before every command, so this holds whatever is presented (R212, R241). -/
theorem step_of_RESET {s : State} (hR : s.ports.RESET = true) : step s = .next (hostAdvance (resetBlock s)) := by
  obtain ⟨-, h⟩ | ⟨hlow, -⟩ | ⟨hlow, -⟩ := step_cases s
  · exact h
  · exact absurd (hR.symm.trans hlow) (by decide)
  · exact absurd (hR.symm.trans hlow) (by decide)

/-- The reset value, as R240 and R242 write it (R7). -/
theorem ofNat_defaultSeed : BitVec.ofNat 64 defaultSeed = 123456789#64 := rfl

/-- Settles O50: a step with RESET asserted is `resetBlock`, which writes STATE only, and then the host's move. -/
theorem resetAbandonsCommand : Obligations.ResetAbandonsCommand := by
  refine ⟨ofNat_defaultSeed, fun s hR => ⟨step_of_RESET hR, fun p rest hhost => ?_⟩⟩
  refine ⟨_, step_of_RESET hR, ?_, ?_, ?_, ?_⟩
  · rw [hostAdvance_STATE, resetBlock_STATE, ofNat_defaultSeed]
  · exact hostAdvance_ports_of_cons _ hhost
  · rw [hostAdvance_host, resetBlock_host, hhost, List.tail_cons]
  · rw [hostAdvance_responses, resetBlock_responses]

end Sys2Proof.Machine

/-! PROOFS. The encoder (30_encoding.md): it and the decoder are inverse to each other (R61 to R63), the match and mask
columns (R64), and how many words each command has (R74). -/

namespace Sys2Proof

/-! ### Decoding and encoding are inverse -/

theorem packWord_toNat_of_lt {op b l : Nat} (hop : op < 16) (hb : b < 16) (hl : l < 256) :
    (packWord op b l).toNat = op + l * 256 + b * 65536 := by
  rw [packWord, BitVec.toNat_ofNat]
  omega

/-- The same of a command that does not use BLOCKS. -/
theorem packWord_toNat_of_layers_lt {op l : Nat} (hop : op < 16) (hl : l < 256) :
    (packWord op 0 l).toNat = op + l * 256 := by
  rw [packWord_toNat_of_lt hop (by decide) hl, Nat.zero_mul, Nat.add_zero]

theorem layersFit_iff (l : Nat) : layersFit l = true ↔ l < 256 := decide_eq_true_iff

theorem countsFit_iff (b l : Nat) : (blocksFit b && layersFit l) = true ↔ b < 16 ∧ l < 256 := by
  simp [blocksFit, layersFit]

theorem decode_encode {i : Instr} (h : i.wellFormed = true) : decode (encode i) = .legal i := by
  cases i with
  | seed => decide
  | raw l =>
    have hl := (layersFit_iff l).mp h
    exact (decode_eq_raw_iff _ l).mpr ⟨hl, packWord_toNat_of_layers_lt (op := 2) (by decide) hl⟩
  | rint l =>
    have hl := (layersFit_iff l).mp h
    exact (decode_eq_rint_iff _ l).mpr ⟨hl, packWord_toNat_of_layers_lt (op := 3) (by decide) hl⟩
  | rbig b l =>
    obtain ⟨hb, hl⟩ := (countsFit_iff b l).mp h
    exact (decode_eq_rbig_iff _ b l).mpr ⟨hb, hl, packWord_toNat_of_lt (op := 4) (by decide) hb hl⟩
  | rfrac b l =>
    obtain ⟨hb, hl⟩ := (countsFit_iff b l).mp h
    exact (decode_eq_rfrac_iff _ b l).mpr ⟨hb, hl, packWord_toNat_of_lt (op := 5) (by decide) hb hl⟩

/-- The counts of a decoded instruction come from fields of their widths (R61). -/
theorem wellFormed_of_decode {w : CmdWord} {i : Instr} (h : decode w = .legal i) : i.wellFormed = true := by
  cases i with
  | seed => rfl
  | raw l => exact (layersFit_iff l).mpr ((decode_eq_raw_iff w l).mp h).1
  | rint l => exact (layersFit_iff l).mpr ((decode_eq_rint_iff w l).mp h).1
  | rbig b l =>
    obtain ⟨hb, hl, -⟩ := (decode_eq_rbig_iff w b l).mp h
    exact (countsFit_iff b l).mpr ⟨hb, hl⟩
  | rfrac b l =>
    obtain ⟨hb, hl, -⟩ := (decode_eq_rfrac_iff w b l).mp h
    exact (countsFit_iff b l).mpr ⟨hb, hl⟩

theorem encode_of_decode {w : CmdWord} {i : Instr} (h : decode w = .legal i) : encode i = w := by
  apply BitVec.eq_of_toNat_eq
  cases i with
  | seed => exact ((decode_eq_seed_iff w).mp h).symm
  | raw l =>
    obtain ⟨hl, hw⟩ := (decode_eq_raw_iff w l).mp h
    exact (packWord_toNat_of_layers_lt (op := 2) (by decide) hl).trans hw.symm
  | rint l =>
    obtain ⟨hl, hw⟩ := (decode_eq_rint_iff w l).mp h
    exact (packWord_toNat_of_layers_lt (op := 3) (by decide) hl).trans hw.symm
  | rbig b l =>
    obtain ⟨hb, hl, hw⟩ := (decode_eq_rbig_iff w b l).mp h
    exact (packWord_toNat_of_lt (op := 4) (by decide) hb hl).trans hw.symm
  | rfrac b l =>
    obtain ⟨hb, hl, hw⟩ := (decode_eq_rfrac_iff w b l).mp h
    exact (packWord_toNat_of_lt (op := 5) (by decide) hb hl).trans hw.symm

/-! ### Match and mask -/

/-- The five fields are the whole word (R61). -/
theorem cmdWord_ext {w v : CmdWord} (hop : w.extractLsb' 0 4 = v.extractLsb' 0 4)
    (hrsv0 : w.extractLsb' 4 4 = v.extractLsb' 4 4) (hlayers : w.extractLsb' 8 8 = v.extractLsb' 8 8)
    (hblocks : w.extractLsb' 16 4 = v.extractLsb' 16 4) (hrsv1 : w.extractLsb' 20 12 = v.extractLsb' 20 12) :
    w = v := by
  have hw := w.isLt
  have hv := v.isLt
  apply BitVec.eq_of_toNat_eq
  simp only [← BitVec.toNat_inj, extractField_toNat] at hop hrsv0 hlayers hblocks hrsv1
  omega

/-- Where the mask is all ones, the masked word has the word's own field (R64). -/
theorem maskedField_of_ones {w mask v : CmdWord} {lo k : Nat} (hmask : mask.extractLsb' lo k = BitVec.allOnes k)
    (h : (w.extractLsb' lo k).toNat = (v.extractLsb' lo k).toNat) :
    (w &&& mask).extractLsb' lo k = v.extractLsb' lo k :=
  (extractLsb'_of_masked rfl hmask).symm.trans (BitVec.eq_of_toNat_eq h)

/-- Where the mask is zero, so is the masked word. -/
theorem maskedField_of_zeros {w mask v : CmdWord} {lo k : Nat} (hmask : mask.extractLsb' lo k = 0)
    (hv : v.extractLsb' lo k = 0) : (w &&& mask).extractLsb' lo k = v.extractLsb' lo k := by
  rw [BitVec.extractLsb'_and, hmask, hv]
  exact BitVec.and_zero

/-- The converse of `fields_of_layersMask`, for a pattern with LAYERS = 0. -/
theorem layersMask_of_fields {w v : CmdWord} (hop : opField w = opField v) (hrsv0 : rsv0Field w = rsv0Field v)
    (hblocks : blocksField w = blocksField v) (hrsv1 : rsv1Field w = rsv1Field v) (hv : v.extractLsb' 8 8 = 0) :
    w &&& 0xFFFF00FF#32 = v :=
  cmdWord_ext (maskedField_of_ones (by decide) hop) (maskedField_of_ones (by decide) hrsv0)
    (maskedField_of_zeros (by decide) hv) (maskedField_of_ones (by decide) hblocks)
    (maskedField_of_ones (by decide) hrsv1)

/-- The converse of `fields_of_countsMask`, for a pattern with LAYERS = BLOCKS = 0. -/
theorem countsMask_of_fields {w v : CmdWord} (hop : opField w = opField v) (hrsv0 : rsv0Field w = rsv0Field v)
    (hrsv1 : rsv1Field w = rsv1Field v) (hlayers : v.extractLsb' 8 8 = 0) (hblocks : v.extractLsb' 16 4 = 0) :
    w &&& 0xFFF000FF#32 = v :=
  cmdWord_ext (maskedField_of_ones (by decide) hop) (maskedField_of_ones (by decide) hrsv0)
    (maskedField_of_zeros (by decide) hlayers) (maskedField_of_zeros (by decide) hblocks)
    (maskedField_of_ones (by decide) hrsv1)

/-- A legal word carries its operation number, and zeros in the reserved fields. -/
theorem fixedFields_of_decode {w : CmdWord} {i : Instr} (h : decode w = .legal i) :
    opField w = i.opNumber ∧ rsv0Field w = 0 ∧ rsv1Field w = 0 := by
  rw [← encode_of_decode h]
  cases i with
  | seed => exact Laws.FixedFields.seed
  | raw l => exact Laws.FixedFields.raw l
  | rint l => exact Laws.FixedFields.rint l
  | rbig b l => exact Laws.FixedFields.rbig b l
  | rfrac b l => exact Laws.FixedFields.rfrac b l

/-- A word of at most 16 bits has no block count. -/
theorem blocksField_eq_zero_of_lt {w : CmdWord} (h : w.toNat < 65536) : blocksField w = 0 := by
  rw [blocksField, extractField_toNat]
  omega

theorem allMask_eq_iff_decode_seed (w : CmdWord) :
    w &&& 0xFFFFFFFF#32 = 0x00000001#32 ↔ decode w = .legal .seed := by
  have hmask : w &&& 0xFFFFFFFF#32 = w := BitVec.and_allOnes
  rw [hmask, decode_eq_seed_iff, ← BitVec.toNat_inj]
  rfl

theorem layersMask_eq_iff_decode_raw (w : CmdWord) :
    w &&& 0xFFFF00FF#32 = 0x00000002#32 ↔ ∃ l, decode w = .legal (.raw l) := by
  refine ⟨fun h => ⟨_, decode_raw_of_mask h⟩, fun ⟨l, hd⟩ => ?_⟩
  obtain ⟨hop, hrsv0, hrsv1⟩ := fixedFields_of_decode hd
  obtain ⟨hl, hw⟩ := (decode_eq_raw_iff w l).mp hd
  exact layersMask_of_fields hop hrsv0 (blocksField_eq_zero_of_lt (by omega)) hrsv1 (by decide)

theorem layersMask_eq_iff_decode_rint (w : CmdWord) :
    w &&& 0xFFFF00FF#32 = 0x00000003#32 ↔ ∃ l, decode w = .legal (.rint l) := by
  refine ⟨fun h => ⟨_, decode_rint_of_mask h⟩, fun ⟨l, hd⟩ => ?_⟩
  obtain ⟨hop, hrsv0, hrsv1⟩ := fixedFields_of_decode hd
  obtain ⟨hl, hw⟩ := (decode_eq_rint_iff w l).mp hd
  exact layersMask_of_fields hop hrsv0 (blocksField_eq_zero_of_lt (by omega)) hrsv1 (by decide)

theorem countsMask_eq_iff_decode_rbig (w : CmdWord) :
    w &&& 0xFFF000FF#32 = 0x00000004#32 ↔ ∃ b l, decode w = .legal (.rbig b l) := by
  refine ⟨fun h => ⟨_, _, decode_rbig_of_mask h⟩, fun ⟨b, l, hd⟩ => ?_⟩
  obtain ⟨hop, hrsv0, hrsv1⟩ := fixedFields_of_decode hd
  exact countsMask_of_fields hop hrsv0 hrsv1 (by decide) (by decide)

theorem countsMask_eq_iff_decode_rfrac (w : CmdWord) :
    w &&& 0xFFF000FF#32 = 0x00000005#32 ↔ ∃ b l, decode w = .legal (.rfrac b l) := by
  refine ⟨fun h => ⟨_, _, decode_rfrac_of_mask h⟩, fun ⟨b, l, hd⟩ => ?_⟩
  obtain ⟨hop, hrsv0, hrsv1⟩ := fixedFields_of_decode hd
  exact countsMask_of_fields hop hrsv0 hrsv1 (by decide) (by decide)

/-! ### How many words a command has -/

/-- The words that decode to a member of a family of instructions. -/
def wordsOf {α : Type} (f : α → Instr) : Set CmdWord := { w | ∃ a, decode w = .legal (f a) }

/-- A family has as many words as well-formed members (R74). -/
theorem ncard_wordsOf {α : Type} {f : α → Instr} (hf : f.Injective) {S : Finset α}
    (hS : ∀ a, (f a).wellFormed = true ↔ a ∈ S) : (wordsOf f).ncard = S.card := by
  have himage : wordsOf f = (fun a => encode (f a)) '' S := by
    ext w
    constructor
    · rintro ⟨a, hd⟩
      exact ⟨a, (hS a).mp (wellFormed_of_decode hd), encode_of_decode hd⟩
    · rintro ⟨a, ha, rfl⟩
      exact ⟨a, decode_encode ((hS a).mpr ha)⟩
  have hinj : Set.InjOn (fun a => encode (f a)) S := by
    intro a ha b hb hab
    have hdecoded := congrArg decode hab
    rw [decode_encode ((hS a).mpr ha), decode_encode ((hS b).mpr hb)] at hdecoded
    exact hf (Decoded.legal.inj hdecoded)
  rw [himage, hinj.ncard_image, Set.ncard_coe_finset]

/-- A word has one meaning, so families without a common member have no common word. -/
theorem disjoint_wordsOf {α β : Type} {f : α → Instr} {g : β → Instr} (h : ∀ a b, f a ≠ g b) :
    Disjoint (wordsOf f) (wordsOf g) :=
  Set.disjoint_left.mpr fun _ ⟨a, ha⟩ ⟨b, hb⟩ => h a b (Decoded.legal.inj (ha.symm.trans hb))

/-- The pairs of counts that fit their fields. -/
def countPairs : Finset (Nat × Nat) := Finset.range 16 ×ˢ Finset.range 256

theorem card_countPairs : countPairs.card = 4096 := by
  rw [countPairs, Finset.card_product, Finset.card_range, Finset.card_range]

theorem countsFit_iff_mem (c : Nat × Nat) : (blocksFit c.1 && layersFit c.2) = true ↔ c ∈ countPairs := by
  rw [countsFit_iff, countPairs, Finset.mem_product, Finset.mem_range, Finset.mem_range]

theorem ncard_wordsOf_seed : (wordsOf fun _ : Unit => Instr.seed).ncard = 1 :=
  ncard_wordsOf (S := Finset.univ) (fun _ _ _ => rfl) fun _ => ⟨fun _ => Finset.mem_univ _, fun _ => rfl⟩

theorem ncard_wordsOf_raw : (wordsOf Instr.raw).ncard = 256 :=
  (ncard_wordsOf (fun _ _ => Instr.raw.inj) fun l => (layersFit_iff l).trans Finset.mem_range.symm).trans
    (Finset.card_range 256)

theorem ncard_wordsOf_rint : (wordsOf Instr.rint).ncard = 256 :=
  (ncard_wordsOf (fun _ _ => Instr.rint.inj) fun l => (layersFit_iff l).trans Finset.mem_range.symm).trans
    (Finset.card_range 256)

theorem ncard_wordsOf_rbig : (wordsOf fun c : Nat × Nat => Instr.rbig c.1 c.2).ncard = 4096 :=
  (ncard_wordsOf (fun _ _ h => Prod.ext_iff.mpr (Instr.rbig.inj h)) countsFit_iff_mem).trans card_countPairs

theorem ncard_wordsOf_rfrac : (wordsOf fun c : Nat × Nat => Instr.rfrac c.1 c.2).ncard = 4096 :=
  (ncard_wordsOf (fun _ _ h => Prod.ext_iff.mpr (Instr.rfrac.inj h)) countsFit_iff_mem).trans card_countPairs

/-- The legal words: those of the five commands. -/
theorem wordsOf_id : wordsOf id =
    (wordsOf fun _ : Unit => Instr.seed) ∪ (wordsOf Instr.raw ∪ (wordsOf Instr.rint ∪
      ((wordsOf fun c : Nat × Nat => Instr.rbig c.1 c.2) ∪ wordsOf fun c : Nat × Nat => Instr.rfrac c.1 c.2))) := by
  ext w
  simp only [wordsOf, Set.mem_union, Set.mem_ofPred_eq, id, Prod.exists]
  constructor
  · rintro ⟨i, hd⟩
    cases i with
    | seed => exact .inl ⟨(), hd⟩
    | raw l => exact .inr (.inl ⟨l, hd⟩)
    | rint l => exact .inr (.inr (.inl ⟨l, hd⟩))
    | rbig b l => exact .inr (.inr (.inr (.inl ⟨b, l, hd⟩)))
    | rfrac b l => exact .inr (.inr (.inr (.inr ⟨b, l, hd⟩)))
  · rintro (⟨-, hd⟩ | ⟨l, hd⟩ | ⟨l, hd⟩ | ⟨b, l, hd⟩ | ⟨b, l, hd⟩) <;> exact ⟨_, hd⟩

theorem ncard_wordsOf_id : (wordsOf id).ncard = 8705 := by
  rw [wordsOf_id, Set.ncard_union_eq, Set.ncard_union_eq, Set.ncard_union_eq, Set.ncard_union_eq,
    ncard_wordsOf_seed, ncard_wordsOf_raw, ncard_wordsOf_rint, ncard_wordsOf_rbig, ncard_wordsOf_rfrac]
  all_goals
    simp only [Set.disjoint_union_right, disjoint_wordsOf, ne_eq, reduceCtorEq, not_false_eq_true, implies_true,
      and_self]

/-- The other words are illegal (R73). -/
theorem setOf_illegal : { w : CmdWord | ∃ why, decode w = .illegal why } = (wordsOf id)ᶜ := by
  ext w
  cases hd : decode w <;> simp [wordsOf, hd]

theorem ncard_illegal : Set.ncard { w : CmdWord | ∃ why, decode w = .illegal why } = 2 ^ 32 - 8705 := by
  rw [setOf_illegal, Set.ncard_compl, ncard_wordsOf_id, Nat.card_congr BitVec.equivFin.toEquiv, Nat.card_fin]

/-! ### The statements -/

/-- Settles O3, by the decoder's arithmetic for each instruction. -/
theorem decodeOfEncodeIsIdentity : Obligations.DecodeOfEncodeIsIdentity := fun _ => decode_encode

/-- Settles O4: the fields of a legal word determine it. -/
theorem encodeOfDecodeIsIdentity : Obligations.EncodeOfDecodeIsIdentity :=
  fun _ _ h => ⟨wellFormed_of_decode h, encode_of_decode h⟩

/-- Settles O2: under its mask a word shows the fields that R63 checks. -/
theorem matchAndMaskSelectCommand : Obligations.MatchAndMaskSelectCommand := fun w =>
  ⟨allMask_eq_iff_decode_seed w, layersMask_eq_iff_decode_raw w, layersMask_eq_iff_decode_rint w,
    countsMask_eq_iff_decode_rbig w, countsMask_eq_iff_decode_rfrac w⟩

/-- Settles O5: each command has a word for every well-formed instruction, and the rest are illegal. -/
theorem countsOfCommandWords : Obligations.CountsOfCommandWords := by
  have hrbig := ncard_wordsOf_rbig
  have hrfrac := ncard_wordsOf_rfrac
  have hseed := ncard_wordsOf_seed
  simp only [wordsOf, Prod.exists, exists_const] at hrbig hrfrac hseed
  exact ⟨hseed, ncard_wordsOf_raw, ncard_wordsOf_rint, hrbig, hrfrac, ncard_illegal⟩

/-- Settles O6, by the decoder on the words written out. -/
theorem sampleWordsDecode : Obligations.SampleWordsDecode :=
  ⟨by decide, by decide, by decide, by decide, by decide, by decide⟩

end Sys2Proof

/-! PROOFS. The sequence of the generator (40_generator.md): its closed form (R103), that it does not come back within
2^64 transitions (R109, R48), and that layers compose (R110). -/

namespace Sys2Proof.Machine

open Sys2Proof Sys2Proof.Config

variable {opW coefW expW : Nat}

/-! ### L transitions as one multiply-add -/

theorem lcgGeom_eq_sum (l : Nat) : lcgGeom l = ∑ j ∈ Finset.range l, lcgA ^ j := by
  induction l with
  | zero => rfl
  | succ l ih => rw [lcgGeom, ih, Finset.sum_range_succ]

/-- The sum one longer, from its other end: a (a^0 + ... + a^(L-1)) + 1. -/
theorem lcgGeom_succ_eq_mul (l : Nat) : lcgGeom (l + 1) = lcgGeom l * lcgA + 1 := by
  induction l with
  | zero => rfl
  | succ l ih =>
    calc lcgGeom (l + 2) = lcgGeom l * lcgA + 1 + lcgA ^ (l + 1) := congrArg (· + lcgA ^ (l + 1)) ih
      _ = (lcgGeom l + lcgA ^ l) * lcgA + 1 := by ring

theorem lcgJump_zero (s : GenWord) : lcgJump 0 s = s := by
  simp [lcgJump, lcgMulOf, lcgIncOf, lcgGeom]

/-- One more transition multiplies and adds once more (R103). -/
theorem lcgJump_succ (l : Nat) (s : GenWord) : lcgJump (l + 1) s = lcg (lcgJump l s) := by
  have hinc : lcgC * lcgGeom (l + 1) = lcgA * (lcgC * lcgGeom l) + lcgC := by
    rw [lcgGeom_succ_eq_mul]
    ring
  rw [lcg_eq_mul_add, lcgJump, lcgJump, lcgMulOf, lcgMulOf, lcgIncOf, lcgIncOf, hinc, pow_succ']
  rw [BitVec.ofNat_add, BitVec.ofNat_mul, BitVec.ofNat_mul]
  ring

theorem lcgJump_eq_lcgIter (l : Nat) (s : GenWord) : lcgJump l s = lcgIter l s := by
  induction l with
  | zero => exact lcgJump_zero s
  | succ l ih => rw [lcgJump_succ, lcgIter_succ, ih]

/-- R103 on numbers: the closed form before its reduction to 64 bits. -/
theorem lcgIter_toNat_modEq (l : Nat) (s : GenWord) :
    (lcgIter l s).toNat ≡ lcgA ^ l * s.toNat + lcgC * lcgGeom l [MOD 2 ^ 64] := by
  have hword : lcgIter l s = BitVec.ofNat 64 (lcgA ^ l * s.toNat + lcgC * lcgGeom l) := by
    rw [← lcgJump_eq_lcgIter, BitVec.ofNat_add, BitVec.ofNat_mul, BitVec.ofNat_toNat, BitVec.setWidth_eq]
    rfl
  rw [hword, BitVec.toNat_ofNat]
  exact Nat.mod_modEq _ _

/-! ### The sequence does not come back early -/

theorem lcgGeom_mod_two (l : Nat) : lcgGeom l % 2 = l % 2 := by
  induction l with
  | zero => rfl
  | succ l ih =>
    have hodd : lcgA ^ l % 2 = 1 := Nat.odd_iff.mp (Odd.pow (by decide))
    rw [lcgGeom]
    omega

theorem lcgGeom_add (m k : Nat) : lcgGeom (m + k) = lcgGeom m + lcgA ^ m * lcgGeom k := by
  induction k with
  | zero => rfl
  | succ k ih => rw [← Nat.add_assoc, lcgGeom, ih, lcgGeom, pow_add, mul_add, Nat.add_assoc]

/-- a^L - 1 is a - 1 times the sum. -/
theorem lcgA_pow_eq (l : Nat) : lcgA ^ l = lcgGeom l * (lcgA - 1) + 1 := by
  have hsucc : lcgGeom l + lcgA ^ l = lcgGeom l * lcgA + 1 := lcgGeom_succ_eq_mul l
  have hle : lcgGeom l * 1 ≤ lcgGeom l * lcgA := Nat.mul_le_mul_left _ (by decide)
  rw [Nat.mul_sub]
  omega

/-- a is 1 modulo 4, so 1 + a^m is twice an odd number. -/
theorem one_add_lcgA_pow (m : Nat) : ∃ q, 1 + lcgA ^ m = 2 * q ∧ Odd q := by
  have hmod : lcgA ^ m % 4 = 1 := by simp [Nat.pow_mod, lcgA]
  exact ⟨(1 + lcgA ^ m) / 2, by omega, Nat.odd_iff.mpr (by omega)⟩

/-- The sum is divisible by no higher power of two than L is. -/
theorem two_pow_dvd_of_dvd_lcgGeom (k l : Nat) (h : 2 ^ k ∣ lcgGeom l) : 2 ^ k ∣ l := by
  induction k generalizing l with
  | zero => exact one_dvd l
  | succ k ih =>
    have heven : 2 ∣ l := by
      have hgeom : 2 ∣ lcgGeom l := (dvd_pow_self 2 k.succ_ne_zero).trans h
      have hparity := lcgGeom_mod_two l
      omega
    obtain ⟨m, rfl⟩ := heven
    obtain ⟨q, hq, hodd⟩ := one_add_lcgA_pow m
    have hhalf : 2 ^ k ∣ lcgGeom m * q := by
      have hdouble : lcgGeom (2 * m) = 2 * (lcgGeom m * q) := by
        rw [two_mul, lcgGeom_add, ← one_add_mul, hq]
        ring
      rw [hdouble, pow_succ'] at h
      exact Nat.dvd_of_mul_dvd_mul_left two_pos h
    have hcoprime : Nat.Coprime (2 ^ k) q := (Nat.coprime_two_left.mpr hodd).pow_left k
    rw [pow_succ']
    exact Nat.mul_dvd_mul_left 2 (ih m (hcoprime.dvd_of_dvd_mul_right hhalf))

/-- L transitions give back the value they start from only when L is a multiple of the period 2^64 (R109). -/
theorem two_pow_dvd_of_lcgIter_eq_self {l : Nat} {s : GenWord} (h : lcgIter l s = s) : 2 ^ 64 ∣ l := by
  have hmod := lcgIter_toNat_modEq l s
  have hform : lcgA ^ l * s.toNat + lcgC * lcgGeom l =
      s.toNat + lcgGeom l * ((lcgA - 1) * s.toNat + lcgC) := by
    rw [lcgA_pow_eq]
    ring
  rw [h, hform] at hmod
  have hdvd : 2 ^ 64 ∣ lcgGeom l * ((lcgA - 1) * s.toNat + lcgC) :=
    (Nat.modEq_zero_iff_dvd).mp (Nat.ModEq.add_left_cancel' s.toNat hmod.symm)
  have hodd : Odd ((lcgA - 1) * s.toNat + lcgC) := ((by decide : Even (lcgA - 1)).mul_right _).add_odd (by decide)
  have hcoprime : Nat.Coprime (2 ^ 64) ((lcgA - 1) * s.toNat + lcgC) := (Nat.coprime_two_left.mpr hodd).pow_left 64
  exact two_pow_dvd_of_dvd_lcgGeom 64 l (hcoprime.dvd_of_dvd_mul_right hdvd)

/-! ### A command that completes -/

/-- A well-formed instruction takes at most 15 x 255 transitions (R251). -/
theorem transitions_le_of_wellFormed {i : Instr} (h : i.wellFormed = true) : i.transitions ≤ 15 * 255 := by
  cases i with
  | seed => exact Nat.zero_le _
  | raw l =>
    have hl := (layersFit_iff l).mp h
    exact (Nat.le_of_lt_succ hl).trans (by decide)
  | rint l =>
    have hl := (layersFit_iff l).mp h
    exact (Nat.le_of_lt_succ hl).trans (by decide)
  | rbig b l =>
    obtain ⟨hb, hl⟩ := (countsFit_iff b l).mp h
    exact Nat.mul_le_mul (Nat.le_of_lt_succ hb) (Nat.le_of_lt_succ hl)
  | rfrac b l =>
    obtain ⟨hb, hl⟩ := (countsFit_iff b l).mp h
    exact Nat.mul_le_mul (Nat.le_of_lt_succ hb) (Nat.le_of_lt_succ hl)

theorem checkRange_ne_ok (low high : Int) : checkRange low high ≠ some .ok := by
  unfold checkRange
  split_ifs <;> simp

theorem checkBlocksThenRange_ne_ok (b : Nat) (low high : Int) : checkBlocksThenRange b low high ≠ some .ok := by
  rcases eq_or_ne b 0 with rfl | hb
  · simp [checkBlocksThenRange_zero]
  · rw [checkBlocksThenRange_pos hb]
    exact checkRange_ne_ok low high

/-- A guarded command that answers OK has passed its check, so it has left the STATE it leaves without one. -/
theorem guarded_ok_STATE {chk : Option Status} (hchk : chk ≠ some .ok) {s t : Sized.State opW coefW expW}
    {st : GenWord} {f : Sized.State opW coefW expW → Sized.State opW coefW expW}
    {r : Sized.Response coefW expW} (hf : ∃ c x, f s = s.answered st (okResponse c x)) (h : guarded chk s f = .next t)
    (hr : t.responses = s.responses ++ [r]) (hok : r.STATUS = 0) : t.STATE = st := by
  obtain ⟨e, rfl, hg⟩ | ⟨-, hg⟩ := guarded_cases chk s f
  · cases hg.symm.trans h
    have hresponse : { STATUS := e.code, COEF := 0, EXP := 0 } = r := by simpa using hr
    rw [← hresponse, Status.code_eq_zero_iff] at hok
    exact absurd (congrArg some hok) hchk
  · obtain ⟨c, x, hf⟩ := hf
    cases hg.symm.trans h
    rw [hf, answered_STATE]

/-- A generating command that answers OK has taken all its transitions (R251). -/
theorem exec_ok_STATE {i : Instr} (hi : i ≠ .seed) {s t : State} {r : Response} (h : exec i s = .next t)
    (hr : t.responses = s.responses ++ [r]) (hok : r.STATUS = 0) : t.STATE = lcgIter i.transitions s.STATE := by
  cases i with
  | seed => exact absurd rfl hi
  | raw l => cases h; rfl
  | rint l => exact guarded_ok_STATE (checkRange_ne_ok _ _) (performRint_answers l _ _ s) h hr hok
  | rbig b l => exact guarded_ok_STATE (checkBlocksThenRange_ne_ok b _ _) (performRbig_answers _ b l _ _ s) h hr hok
  | rfrac b l => exact guarded_ok_STATE (checkBlocksThenRange_ne_ok b _ _) (performRfrac_answers b l _ _ s) h hr hok

/-! ### The statements -/

/-- Settles O8: the multiply-add is that of `lcgJump`, by induction on the transitions; the table is evaluated. -/
theorem lcgClosedForm : Obligations.LcgClosedForm := by
  refine ⟨fun l s => ?_, lcgJump_eq_lcgIter, ?_⟩
  · have hgeom := lcgGeom_eq_sum l
    rw [← lcgJump_eq_lcgIter, lcgJump, lcgMulOf, lcgIncOf, hgeom]
    rfl
  · decide

/-- Settles O9: 2^64 divides no number from 1 to 255. -/
theorem transitionsHaveNoFixedPoint : Obligations.TransitionsHaveNoFixedPoint := by
  intro l s hpos hle h
  have hperiod := Nat.le_of_dvd hpos (two_pow_dvd_of_lcgIter_eq_self h)
  omega

/-- Settles O10: a command that completes has taken its transitions, fewer than the period. -/
theorem completedGenerationChangesState : Obligations.CompletedGenerationChangesState := by
  intro i s t r hwf hpos hexec hresponses hok hsame
  have hseed : i ≠ .seed := fun h => hpos (h ▸ rfl)
  rw [exec_ok_STATE hseed hexec hresponses hok] at hsame
  have hperiod := Nat.le_of_dvd (Nat.pos_of_ne_zero hpos) (two_pow_dvd_of_lcgIter_eq_self hsame)
  have hfew := transitions_le_of_wellFormed hwf
  omega

/-- Settles O14: L1 and then L2 transitions are L1 + L2 of them, and RAW answers the STATE it leaves. -/
theorem layeringComposes : Obligations.LayeringComposes := by
  refine ⟨fun l₁ l₂ s _ => ?_, by decide, by decide⟩
  refine ⟨_, _, _, exec_raw l₁ s, exec_raw l₂ _, exec_raw (l₁ + l₂) s, ?_, ?_⟩
  · exact (lcgIter_add l₁ l₂ s.STATE).symm
  · simp [lcgIter_add]

end Sys2Proof.Machine

/-! PROOFS. Results in their range (41_range_mapping.md): RINT and RBIG answer within their bounds (R124, R128), how
often each element is hit (R129), and RINT as RBIG of one block (R130). -/

namespace Sys2Proof.Machine

open Sys2Proof Sys2Proof.Config

variable {opW coefW expW : Nat}

/-! ### A value mapped into its range -/

theorem mapIntoRange_between {low high : Int} (h : low ≤ high) (v : Nat) :
    low ≤ mapIntoRange low high v ∧ mapIntoRange low high v ≤ high := by
  have hnonneg := Int.emod_nonneg (v : Int) (span_pos h).ne'
  have hlt := Int.emod_lt_of_pos (v : Int) (span_pos h)
  unfold mapIntoRange
  unfold span at *
  omega

/-- Placed between two bounds of w bits, a mapped value is read back from COEF as it is (R71). -/
theorem mapIntoRange_readBack {w : Nat} {x y : BitVec w} (h : x.toInt ≤ y.toInt) (hw : w ≤ coefW) (v : Nat) :
    ((BitVec.ofInt w (mapIntoRange x.toInt y.toInt v)).signExtend coefW).toInt =
      mapIntoRange x.toInt y.toInt v := by
  obtain ⟨hlow, hhigh⟩ := mapIntoRange_between h v
  exact signExtend_ofInt_toInt_of_between hlow hhigh hw

/-- RBIG of a realisation on ordered bounds (R126). -/
theorem execRbigWith_of_le (p : Params) {b : Nat} (l : Nat) {s : Sized.State opW coefW expW} (hb : b ≠ 0)
    (h : rbigBound p s.OPA ≤ rbigBound p s.OPB) :
    execRbigWith p b l s = .next (s.answered (lcgIter (b * l) s.STATE)
      (okResponse ((BitVec.ofInt p.bigW
        (mapIntoRange (rbigBound p s.OPA) (rbigBound p s.OPB) (blockValue b l s.STATE))).signExtend coefW) 0)) := by
  rw [execRbigWith, (checkBlocksThenRange_eq_none_iff _ _ _).mpr ⟨hb, h⟩, guarded_none, performRbig_eq]
  rfl

/-! ### How often an element is hit -/

/-- A raw value is mapped to x exactly when it is congruent to the distance of x from the lower bound. -/
theorem mapIntoRange_eq_iff {low high x : Int} (hlow : low ≤ x) (hhigh : x ≤ high) (v : Nat) :
    mapIntoRange low high v = x ↔ v ≡ (x - low).toNat [MOD (span low high).toNat] := by
  have hspan : ((span low high).toNat : Int) = span low high := Int.toNat_of_nonneg (span_pos (hlow.trans hhigh)).le
  have hdist : ((x - low).toNat : Int) = x - low := Int.toNat_of_nonneg (sub_nonneg.mpr hlow)
  have hself : (x - low) % span low high = x - low := Int.emod_eq_of_lt (by omega) (by unfold span; omega)
  rw [← Int.natCast_modEq_iff, hspan, hdist, Int.ModEq, hself, mapIntoRange]
  omega

/-- Of the first n raw values, the number that is mapped to x (R129). -/
theorem card_mapIntoRange_eq {low high x : Int} (hlow : low ≤ x) (hhigh : x ≤ high) (n : Nat) :
    ((Finset.range n).filter fun v => mapIntoRange low high v = x).card =
      n / (span low high).toNat +
        if (x - low).toNat % (span low high).toNat < n % (span low high).toNat then 1 else 0 := by
  have hspan : 0 < (span low high).toNat := Int.lt_toNat.mpr (span_pos (hlow.trans hhigh))
  simp only [mapIntoRange_eq_iff hlow hhigh]
  rw [← Nat.count_eq_card_filter_range, Nat.count_modEq_card n hspan]

/-! ### One block -/

theorem blockValue_one (l : Nat) (st : GenWord) : blockValue 1 l st = (lcgIter l st).toNat := by
  rw [blockValue_succ]
  simp [blockValue]

/-- On equal bounds RINT and RBIG of one block have one answer, an error included (R130). -/
theorem answerRint_eq_answerRbig_one (l : Nat) (st : GenWord) {x y : BitVec 64} {x' y' : BitVec 512}
    (hx : x.toInt = x'.toInt) (hy : y.toInt = y'.toInt) :
    (answerRint l x.toInt y.toInt st : GenWord × Response) = answerRbig 512 1 l x'.toInt y'.toInt st := by
  rw [answerRbig, ← hx, ← hy, if_neg one_ne_zero, answerRint]
  split_ifs with hlt
  · rfl
  · have hle := not_lt.mp hlt
    have hle' : x'.toInt ≤ y'.toInt := by rwa [← hx, ← hy]
    have hcoef : (BitVec.ofInt 64 (mapIntoRange x.toInt y.toInt (lcgIter l st).toNat)).signExtend 4608 =
        (BitVec.ofInt 512 (mapIntoRange x.toInt y.toInt (lcgIter l st).toNat)).signExtend 4608 := by
      apply BitVec.eq_of_toInt_eq
      rw [mapIntoRange_readBack hle (by decide), hx, hy, mapIntoRange_readBack hle' (by decide)]
    rw [one_mul, blockValue_one]
    exact congrArg (fun c => (lcgIter l st, okResponse c 0)) hcoef

/-! ### The statements -/

/-- Settles O16: the mapped word lies in the range, so 64 bits hold it. -/
theorem rintResultInRange : Obligations.RintResultInRange := by
  intro l s low high hlow hhigh hle
  subst hlow hhigh
  have hcoef := mapIntoRange_readBack (coefW := 4608) hle (by decide) (lcgIter l s.STATE).toNat
  obtain ⟨hge, hle'⟩ := mapIntoRange_between hle (lcgIter l s.STATE).toNat
  exact ⟨_, exec_rint_of_le l hle, rfl, rfl, hcoef, hge.trans hcoef.ge, hcoef.le.trans hle'⟩

/-- Settles O21: the mapped value lies in the range, so P_BIG_W bits hold it. -/
theorem rbigResultInRange : Obligations.RbigResultInRange := by
  intro p b l s low high hp hlow hhigh hb hle
  subst hlow hhigh
  obtain ⟨-, -, hbigRes, -⟩ := hp
  have hcoef := mapIntoRange_readBack hle hbigRes (blockValue b l s.STATE)
  obtain ⟨hge, hle'⟩ := mapIntoRange_between hle (blockValue b l s.STATE)
  exact ⟨_, execRbigWith_of_le p l hb hle, rfl, rfl, hcoef, hge.trans hcoef.ge, hcoef.le.trans hle'⟩

/-- Settles O23: the raw values mapped to x are one residue class modulo span. -/
theorem rangeMappingIsNearlyUniform : Obligations.RangeMappingIsNearlyUniform := by
  intro low high x n hlow hhigh
  have hspan : ((span low high).toNat : Int) = high - low + 1 :=
    Int.toNat_of_nonneg (span_pos (hlow.trans hhigh)).le
  rw [card_mapIntoRange_eq hlow hhigh, ← hspan, ← Int.natCast_div]
  refine ⟨?_, fun hdvd => ?_⟩
  · split_ifs
    · exact .inr (Nat.cast_succ _)
    · exact .inl rfl
  · rw [Nat.mod_eq_zero_of_dvd (Int.natCast_dvd_natCast.mp hdvd), if_neg (Nat.not_lt_zero _), Nat.add_zero]

/-- Settles O24: both commands do what the block function says, and there they have one answer. -/
theorem rintIsRbigOfOneBlock : Obligations.RintIsRbigOfOneBlock := by
  intro l s s' hstate hlow hhigh
  refine ⟨_, _, execRint_eq_answerRint l s, ?_⟩
  have hrbig := execRbigWith_eq_answerRbig .listed 1 l s'
  rw [← hstate] at hrbig
  exact (answerRint_eq_answerRbig_one l s.STATE hlow hhigh) ▸ hrbig

end Sys2Proof.Machine

/-! PROOFS. RFRAC's results (42_precision_scaling.md), in every realisation: the exact value (R153), its bounds (R157),
equal bounds (R158), the result bus (R159), and the digits between 0 and 1 (R161). -/

namespace Sys2Proof.Machine

open Sys2Proof Sys2Proof.Config

variable {opW coefW expW : Nat}

/-! ### RFRAC on ordered bounds -/

/-- RFRAC of a realisation on ordered bounds answers the pair (N, e - n) (R155). -/
theorem execRfracWith_of_value_le (p : Params) {b : Nat} (l : Nat) {s : Sized.State opW coefW expW} (hb : b ≠ 0)
    (h : (decAt p s.OPA).value ≤ (decAt p s.OPB).value) :
    execRfracWith p b l s = .next (s.answered (lcgIter (b * l) s.STATE)
      (rfracResponse b (decAt p s.OPA) (decAt p s.OPB) (blockValue b l s.STATE))) := by
  have hnot : ¬ alignTo (decAt p s.OPB) (decAt p s.OPA) < alignTo (decAt p s.OPA) (decAt p s.OPB) :=
    not_lt.mpr ((alignTo_le_alignTo_iff _ _).mpr h)
  rw [execRfracWith_eq_answerRfrac, answerRfrac, if_neg hb, if_neg hnot]
  rfl

/-- COEF and EXP of the listed block read back (R159). -/
theorem rfracResponse_decOn_COEF_toInt {b : Nat} (hb : b ≤ 15) (l : Nat) (st : GenWord) (x y : OperandBus) :
    (rfracResponse b (decOn x) (decOn y) (blockValue b l st) : Response).COEF.toInt =
      scaledCoef b (decOn x) (decOn y) (blockValue b l st) :=
  rfracResponse_COEF_toInt (p := .listed) listed_valid hb (blockValue_lt b l st).le x y

theorem rfracResponse_decOn_EXP_toInt {b : Nat} (hb : b ≤ 15) (val : Nat) (x y : OperandBus) :
    (rfracResponse b (decOn x) (decOn y) val : Response).EXP.toInt = scaledExp b (decOn x) (decOn y) :=
  rfracResponse_EXP_toInt (p := .listed) listed_valid hb val x y

/-! ### The bounds of R159 in the listed block -/

theorem natAbs_scaledCoef_decOn_le {b val : Nat} (hval : val ≤ 2 ^ (64 * b)) (x y : OperandBus) :
    (scaledCoef b (decOn x) (decOn y) val).natAbs ≤ 2 ^ 511 * 10 ^ (255 + 64 * b) := by
  have habs : |scaledCoef b (decOn x) (decOn y) val| ≤ 2 ^ 511 * 10 ^ (255 + 64 * b) :=
    abs_scaledCoef_le .listed hval x y
  rw [Int.abs_eq_natAbs] at habs
  exact_mod_cast habs

theorem scaledExp_decOn_between {b : Nat} (hb : b ≤ 15) (x y : OperandBus) :
    -1088 ≤ scaledExp b (decOn x) (decOn y) ∧ scaledExp b (decOn x) (decOn y) ≤ 127 - 64 * (b : Int) := by
  obtain ⟨hlow, hhigh⟩ := commonExp_decOn_between x y
  unfold commonExp at hlow hhigh
  unfold scaledExp
  omega

/-! ### A point of a range -/

/-- A fraction below 1 of the way from x to y (R157). -/
theorem add_sub_mul_between {x y f : ℚ} (hxy : x ≤ y) (h0 : 0 ≤ f) (h1 : f < 1) :
    x ≤ x + (y - x) * f ∧ x + (y - x) * f ≤ y ∧ (x < y → x + (y - x) * f < y) := by
  have hgap : 0 ≤ y - x := sub_nonneg.mpr hxy
  refine ⟨le_add_of_nonneg_right (mul_nonneg hgap h0), ?_, fun hlt => ?_⟩
  · exact le_sub_iff_add_le'.mp (mul_le_of_le_one_right hgap h1.le)
  · exact lt_sub_iff_add_lt'.mp (mul_lt_of_lt_one_right (sub_pos.mpr hlt) h1)

/-! ### Equal bounds, and 0 and 1 -/

theorem scaledCoef_of_alignTo_eq {lo hi : Dec} (h : alignTo lo hi = alignTo hi lo) (b val : Nat) :
    scaledCoef b lo hi val = alignTo lo hi * 10 ^ (64 * b) := by
  have hten : (10 : Int) ^ (64 * b) = 2 ^ (64 * b) * 5 ^ (64 * b) := by rw [← mul_pow]; norm_num
  rw [scaledCoef, ← h, sub_self, zero_mul, add_zero, mul_assoc, hten]
  push_cast
  rfl

theorem alignTo_eq_of_value_eq {x y : Dec} (h : x.value = y.value) : alignTo x y = alignTo y x :=
  le_antisymm ((alignTo_le_alignTo_iff x y).mpr h.le) ((alignTo_le_alignTo_iff y x).mpr h.ge)

theorem scaledCoef_unit (b val : Nat) :
    scaledCoef b { coef := 0, exp := 0 } { coef := 1, exp := 0 } val = (val * 5 ^ (64 * b) : Nat) := by
  simp [scaledCoef, alignTo]

theorem scaledExp_unit (b : Nat) :
    scaledExp b { coef := 0, exp := 0 } { coef := 1, exp := 0 } = -(64 * (b : Int)) := by
  simp [scaledExp]

/-- val x 5^n is below 10^n (R161). -/
theorem blockValue_mul_five_pow_lt (b l : Nat) (st : GenWord) :
    blockValue b l st * 5 ^ (64 * b) < 10 ^ (64 * b) := by
  have hten : (10 : Nat) ^ (64 * b) = 2 ^ (64 * b) * 5 ^ (64 * b) := Nat.mul_pow 2 5 _
  rw [hten]
  exact Nat.mul_lt_mul_of_pos_right (blockValue_lt b l st) (by positivity)

/-! ### The statements -/

/-- Settles O27: the value of the pair (N, e - n) for the parameters' own widths, with val / 2^n as the fraction. -/
theorem rfracValueIsExact : Obligations.RfracValueIsExact := by
  intro p b l s lo hi hp hlo hhi hb hb15 hle
  subst hlo hhi
  exact ⟨_, _, execRfracWith_of_value_le p l hb hle, rfl, rfl, blockValue_div_nonneg b l s.STATE,
    blockValue_div_le b l s.STATE, rfracResponse_value hp hb15 (blockValue_lt b l s.STATE).le s.OPA s.OPB⟩

/-- Settles O28: the fraction drawn is at least 0 and below 1. -/
theorem rfracValueInRange : Obligations.RfracValueInRange := by
  intro b l s hb hb15 hle
  refine ⟨_, exec_rfrac_of_value_le l hb hle, rfl, ?_⟩
  rw [rfracResponse_decOn_value hb15]
  exact add_sub_mul_between hle (blockValue_div_nonneg b l s.STATE) (blockValue_div_lt_one b l s.STATE)

/-- Settles O29: with M = X the value drawn has the factor 0. -/
theorem rfracDegenerateRange : Obligations.RfracDegenerateRange := by
  intro b l s hb hb15 heq
  refine ⟨_, exec_rfrac_of_value_le l hb heq.le, rfl, ?_, rfracResponse_decOn_EXP_toInt hb15 _ _ _, ?_⟩
  · rw [rfracResponse_decOn_COEF_toInt hb15, scaledCoef_of_alignTo_eq (alignTo_eq_of_value_eq heq)]
  · rw [rfracResponse_decOn_value hb15, heq, sub_self, zero_mul, add_zero]

/-- Settles O30: the two inequalities of R159 hold the pair on the bus, and at the listed widths give the
rule's bounds. -/
theorem rfracResultFitsBus : Obligations.RfracResultFitsBus := by
  refine ⟨fun p b l s hp hb hb15 hle => ?_, fun b l s hb hb15 hle => ?_⟩
  · exact ⟨_, execRfracWith_of_value_le p l hb hle,
      rfracResponse_COEF_toInt hp hb15 (blockValue_lt b l s.STATE).le s.OPA s.OPB,
      rfracResponse_EXP_toInt hp hb15 _ s.OPA s.OPB⟩
  · have hcoef := rfracResponse_decOn_COEF_toInt hb15 l s.STATE s.OPA s.OPB
    have hexp := rfracResponse_decOn_EXP_toInt hb15 (blockValue b l s.STATE) s.OPA s.OPB
    refine ⟨_, exec_rfrac_of_value_le l hb hle, hcoef, hexp, ?_, ?_⟩
    · rw [hcoef]
      exact natAbs_scaledCoef_decOn_le (blockValue_lt b l s.STATE).le s.OPA s.OPB
    · obtain ⟨hlow, hhigh⟩ := scaledExp_decOn_between hb15 s.OPA s.OPB
      rw [hexp]
      omega

/-- Settles O31: between 0 and 1 the aligned bounds are 0 and 1, so N is val x 5^n. -/
theorem rfracUnitRangeDigits : Obligations.RfracUnitRangeDigits := by
  intro b l s hb hb15 hA hB
  have hle : (decOn s.OPA).value ≤ (decOn s.OPB).value := by rw [hA, hB]; norm_num [Dec.value]
  refine ⟨_, exec_rfrac_of_value_le l hb hle, ?_, ?_, blockValue_mul_five_pow_lt b l s.STATE⟩
  · rw [rfracResponse_decOn_COEF_toInt hb15, hA, hB, scaledCoef_unit]
  · rw [rfracResponse_decOn_EXP_toInt hb15, hA, hB, scaledExp_unit]

end Sys2Proof.Machine

/-! PROOFS. The step (00_scope.md, 60_exceptions.md): it is total and is the block function (R19, R205), what it leaves
unchanged, runs (R253), and that every response is lawful (R201, R209, R159). -/

namespace Sys2Proof.Machine

open Sys2Proof Sys2Proof.Config

variable {opW coefW expW : Nat}

/-! ### Lawful responses -/

theorem natAbs_toInt_zero_le {w : Nat} (n : Nat) : (0 : BitVec w).toInt.natAbs ≤ n := by
  have hzero : (0 : BitVec w).toInt = 0 := BitVec.toInt_zero
  rw [hzero]
  exact Nat.zero_le n

theorem toInt_zero_between : -1088 ≤ (0 : ExpWord).toInt ∧ (0 : ExpWord).toInt ≤ 63 := by decide

theorem errorResponse_lawful (e : Status) : (errorResponse e : Response).Lawful :=
  ⟨e.code_le_three, fun _ => ⟨rfl, rfl⟩, toInt_zero_between.1, toInt_zero_between.2, natAbs_toInt_zero_le _⟩

/-- A completed response is lawful when both of its fields are within the widths of R159. -/
theorem lawful_of_ok {r : Sized.Response coefW expW} (hok : r.STATUS = 0) (hlow : -1088 ≤ r.EXP.toInt)
    (hhigh : r.EXP.toInt ≤ 63) (hcoef : r.COEF.toInt.natAbs ≤ 2 ^ 511 * 10 ^ 1215) : r.Lawful :=
  ⟨hok ▸ Nat.zero_le 3, fun h => absurd hok h, hlow, hhigh, hcoef⟩

/-- A response with EXP = 0 is lawful when COEF is that of a 512-bit number (R71). -/
theorem okResponse_lawful {c : Coef} (h : c.toInt.natAbs ≤ 2 ^ 511) : (okResponse c 0 : Response).Lawful :=
  lawful_of_ok rfl toInt_zero_between.1 toInt_zero_between.2 (h.trans (Nat.le_mul_of_pos_right _ (by positivity)))

theorem natAbs_toInt_le {w : Nat} (x : BitVec w) : x.toInt.natAbs ≤ 2 ^ (w - 1) := by
  have hlow : -2 ^ (w - 1) ≤ x.toInt := BitVec.le_toInt x
  have hhigh : x.toInt < 2 ^ (w - 1) := BitVec.toInt_lt
  have hcast : ((2 ^ (w - 1) : Nat) : Int) = 2 ^ (w - 1) := by push_cast; rfl
  omega

/-- A signed result of w bits, extended to COEF, keeps its value (R71). -/
theorem natAbs_signExtend_le {w : Nat} (x : BitVec w) (hw : w ≤ 512) :
    ((x.signExtend 4608 : Coef).toInt).natAbs ≤ 2 ^ 511 := by
  rw [BitVec.toInt_signExtend_of_le (hw.trans (by decide))]
  have hwidth : 2 ^ (w - 1) ≤ 2 ^ 511 := pow_le_pow_right₀ one_le_two (by omega)
  exact (natAbs_toInt_le x).trans hwidth

/-- A raw word is extended with zeros (R71). -/
theorem natAbs_setWidth_le (w : GenWord) : ((w.setWidth 4608 : Coef).toInt).natAbs ≤ 2 ^ 511 := by
  have hmsb : (w.setWidth 4608).msb = false := by simp [BitVec.msb_setWidth]
  rw [BitVec.toInt_eq_toNat_of_msb hmsb, Int.natAbs_natCast, BitVec.toNat_setWidth_of_le (by decide)]
  exact w.isLt.le.trans (pow_le_pow_right₀ one_le_two (by decide))

theorem answerRint_lawful (l : Nat) (low high : Int) (st : GenWord) :
    (answerRint l low high st : GenWord × Response).2.Lawful := by
  unfold answerRint
  split_ifs
  · exact errorResponse_lawful _
  · exact okResponse_lawful (natAbs_signExtend_le _ (by decide))

theorem answerRbig_lawful (b l : Nat) (low high : Int) (st : GenWord) :
    (answerRbig 512 b l low high st : GenWord × Response).2.Lawful := by
  unfold answerRbig
  split_ifs
  · exact errorResponse_lawful _
  · exact errorResponse_lawful _
  · exact okResponse_lawful (natAbs_signExtend_le _ le_rfl)

/-- The bounds of R159, which need B to be one that its field holds. -/
theorem rfracResponse_lawful {b : Nat} (hb : b ≠ 0) (hb15 : b ≤ 15) (l : Nat) (st : GenWord) (x y : OperandBus) :
    (rfracResponse b (decOn x) (decOn y) (blockValue b l st) : Response).Lawful := by
  have hcoef := rfracResponse_decOn_COEF_toInt hb15 l st x y
  have hexp := rfracResponse_decOn_EXP_toInt hb15 (blockValue b l st) x y
  obtain ⟨hlow, hhigh⟩ := scaledExp_decOn_between hb15 x y
  have hbound : (scaledCoef b (decOn x) (decOn y) (blockValue b l st)).natAbs ≤ 2 ^ 511 * 10 ^ 1215 := by
    refine (natAbs_scaledCoef_decOn_le (blockValue_lt b l st).le x y).trans ?_
    gcongr
    · decide
    · omega
  refine lawful_of_ok rfl ?_ ?_ ?_
  · rw [hexp]; exact hlow
  · rw [hexp]; omega
  · rw [hcoef]; exact hbound

theorem answerRfrac_lawful {b : Nat} (hb15 : b ≤ 15) (l : Nat) (st : GenWord) (x y : OperandBus) :
    (answerRfrac b l (decOn x) (decOn y) st : GenWord × Response).2.Lawful := by
  unfold answerRfrac
  split_ifs with hb
  · exact errorResponse_lawful _
  · exact errorResponse_lawful _
  · exact rfracResponse_lawful hb hb15 l st x y

/-- Whatever is presented, the block function answers lawfully. -/
theorem answer_lawful (st : GenWord) (c : Command) : (answer st c).2.Lawful := by
  unfold answer answerWith
  cases hd : decode c.CMD with
  | illegal why => exact errorResponse_lawful _
  | legal i =>
    cases i with
    | seed => exact okResponse_lawful (natAbs_toInt_zero_le _)
    | raw l => exact okResponse_lawful (natAbs_setWidth_le _)
    | rint l => exact answerRint_lawful l _ _ st
    | rbig b l => exact answerRbig_lawful b l _ _ st
    | rfrac b l =>
      obtain ⟨hb, -⟩ := (decode_eq_rfrac_iff _ b l).mp hd
      exact answerRfrac_lawful (Nat.le_of_lt_succ hb) l st c.OPA c.OPB

/-! ### A step observes one presentation -/

/-- STATE and the responses of a step are the observation of what is presented, and the host goes on (R253). -/
theorem stepWith_observes (p : Params) (s : StateFor p) :
    ∃ t : StateFor p, stepWith p s = .next (hostAdvance t) ∧ t.host = s.host ∧
      t.STATE = (observeOne p s.STATE s.ports).1 ∧ t.responses = s.responses ++ (observeOne p s.STATE s.ports).2 := by
  obtain ⟨hR, h⟩ | ⟨hR, hq, -⟩ | ⟨hR, hq, h⟩ := blockStep_cases (execWith p) s
  · exact ⟨_, h, rfl, by simp [observeOne, hR, defaultSeed], by simp [observeOne, hR]⟩
  · exact ⟨_, stepWith_eq_answerWith ⟨hR, hq⟩, rfl, by simp [observeOne, hR, hq], by simp [observeOne, hR, hq]⟩
  · exact ⟨_, h, rfl, by simp [observeOne, hR, hq], by simp [observeOne, hR, hq]⟩

/-- What one presentation adds to the responses is lawful. -/
theorem observeOne_lawful (st : GenWord) (x : Ports) : ∀ r ∈ (observeOne .listed st x).2, r.Lawful := by
  unfold observeOne
  split_ifs
  · exact List.forall_mem_nil _
  · exact List.forall_mem_singleton.mpr (answer_lawful st x.command)
  · exact List.forall_mem_nil _

/-- A step keeps every delivered response lawful. -/
theorem step_responsesLawful {s t : State} (hs : s.ResponsesLawful) (hstep : step s = .next t) :
    t.ResponsesLawful := by
  obtain ⟨u, hu, -, -, hresponses⟩ := stepWith_observes .listed s
  rw [step_eq_stepWith, hu] at hstep
  cases hstep
  intro r hr
  rw [hostAdvance_responses, hresponses, List.mem_append] at hr
  exact hr.elim (hs r) (observeOne_lawful s.STATE s.ports r)

/-- Running the host's whole list, by induction on the list. -/
theorem run_observes (p : Params) (s : StateFor p) : ∃ t : StateFor p,
    Host.Core.run (coreWith p) (s.host.length + 1) s = .next t ∧
      t.STATE = (observe p s.STATE (s.ports :: s.host)).1 ∧
      t.responses = s.responses ++ (observe p s.STATE (s.ports :: s.host)).2 ∧ t.host = [] := by
  generalize hxs : s.host = xs
  induction xs generalizing s with
  | nil =>
    obtain ⟨t, hstep, hhost, hstate, hresponses⟩ := stepWith_observes p s
    refine ⟨hostAdvance t, run_succ_of_next (coreWith p) 0 hstep, ?_, ?_, ?_⟩
    · rw [hostAdvance_STATE, hstate]; rfl
    · rw [hostAdvance_responses, hresponses]; simp [observe]
    · rw [hostAdvance_host, hhost, hxs]; rfl
  | cons x xs ih =>
    obtain ⟨t, hstep, hhost, hstate, hresponses⟩ := stepWith_observes p s
    have hcons : t.host = x :: xs := hhost.trans hxs
    have htail : (hostAdvance t).host = xs := by rw [hostAdvance_host, hcons, List.tail_cons]
    obtain ⟨u, hrun, hustate, huresponses, huhost⟩ := ih (hostAdvance t) htail
    rw [hostAdvance_STATE, hstate, hostAdvance_ports_of_cons t hcons] at hustate huresponses
    refine ⟨u, (run_succ_of_next (coreWith p) _ hstep).trans hrun, hustate, ?_, huhost⟩
    rw [huresponses, hostAdvance_responses, hresponses, List.append_assoc,
      observe_cons s.STATE p s.ports]

/-! ### What a command leaves unchanged -/

/-- Every instruction answers once, and an answer that writes STATE is OK. -/
theorem exec_eq_answered (i : Instr) (s : State) :
    ∃ st r, exec i s = .next (s.answered st r) ∧ (r.STATUS ≠ 0 → st = s.STATE) := by
  by_cases hi : i = .seed
  · exact ⟨_, _, hi ▸ exec_seed s, fun h => absurd rfl h⟩
  · obtain ⟨e, he⟩ | ⟨c, x, hok⟩ := exec_cases_of_ne_seed hi s
    · exact ⟨_, _, he, fun _ => rfl⟩
    · exact ⟨_, _, hok, fun h => absurd rfl h⟩

/-- A presented command that ends with an error is one whose answer leaves STATE (R209). -/
theorem answer_of_error {s t : State} {r : Response} (hp : s.Presents) (hstep : step s = .next t)
    (hr : t.responses = s.responses ++ [r]) (herr : r.STATUS ≠ 0) :
    answer s.STATE s.ports.command = (s.STATE, r) := by
  cases (step_eq_answer hp).symm.trans hstep
  have hresponse : (answer s.STATE s.ports.command).2 = r := by simpa using hr
  subst hresponse
  obtain hok | ⟨e, he⟩ := answerWith_ok_or_error Params.listed s.STATE s.ports.command
  · exact absurd hok herr
  · rw [answer, he]

/-! ### The statements -/

/-- Settles O47: the response a step adds is the block function's, and that one is lawful. -/
theorem stepKeepsResponsesLawful : Obligations.StepKeepsResponsesLawful := fun _ _ => step_responsesLawful

/-- Settles O48: no response has been delivered. -/
theorem resetResponsesLawful : Obligations.ResetResponsesLawful := List.forall_mem_nil _

/-- Settles O49: both are the state right after reset. -/
theorem resetLoadsDefaultSeed : Obligations.ResetLoadsDefaultSeed := ⟨rfl, ofNat_defaultSeed⟩

/-- Settles O58: each instruction of the listed block is the realisation's at the listed widths. -/
theorem listedMachineIsARealisation : Obligations.ListedMachineIsARealisation :=
  ⟨exec_eq_execWith, rfl⟩

/-- Settles O40: no outcome of a step or of an instruction is a fault or a refusal. -/
theorem everyStepAnswers : Obligations.EveryStepAnswers := by
  have hstep (p : Params) (s : StateFor p) : ∃ t, stepWith p s = .next t :=
    (stepWith_observes p s).elim fun _ h => ⟨_, h.1⟩
  have hexec (i : Instr) (s : State) : ∃ t, exec i s = .next t :=
    (exec_eq_answered i s).elim fun _ ⟨_, h, _⟩ => ⟨_, h⟩
  refine ⟨fun s => ?_, hexec, hstep⟩
  rw [Sized.State.Safe, step_eq_stepWith]
  exact hstep .listed s

/-- Settles O41: the word of a well-formed instruction decodes to it. -/
theorem stepRunsDecodedInstruction : Obligations.StepRunsDecodedInstruction := by
  refine ⟨fun s i => step_of_legal, fun s why hp hd => step_of_illegal hp ⟨why, hd⟩, fun s i hwf => ?_⟩
  have hword : BitVec.ofNat 32 ((encode i).toNat % 2 ^ 32) = encode i := by
    rw [Nat.mod_eq_of_lt (encode i).isLt, BitVec.ofNat_toNat, BitVec.setWidth_eq]
  constructor
  · rw [decodeTableWord, if_pos (Nat.mod_lt _ (by decide)), hword, decode_encode hwf, Decoded.instr?_legal]
  · have hcmd : decode (s.withFetchWord 32 (encode i).toNat).CMD = .legal i := by
      rw [withFetchWord_CMD, hword, decode_encode hwf]
    exact step_of_legal ⟨rfl, rfl⟩ hcmd

/-- Settles O42: every instruction ends in one answer. -/
theorem instructionFrame : Obligations.InstructionFrame := by
  intro i s t h
  obtain ⟨st, r, hanswered, hkeep⟩ := exec_eq_answered i s
  cases hanswered.symm.trans h
  exact ⟨rfl, rfl, r, rfl, hkeep⟩

/-- Settles O44: such a step is the host's move alone. -/
theorem blockWaitsForCommand : Obligations.BlockWaitsForCommand := by
  intro s hR hq
  have hstep : step s = .next (hostAdvance s) := by simp [step, blockStep, hR, hq]
  exact ⟨_, hstep, hostAdvance_STATE s, hostAdvance_responses s, hostAdvance_host s⟩

/-- Settles O45, by the closed form of each command's answer. -/
theorem stepComputesBlockFunction : Obligations.StepComputesBlockFunction :=
  ⟨fun _ => step_eq_answer, fun _ _ => stepWith_eq_answerWith⟩

/-- Settles O46: a run observes its presentations one by one; the host's machine is the listed realisation. -/
theorem runDeliversObservedResponses : Obligations.RunDeliversObservedResponses :=
  ⟨run_observes .listed, run_observes⟩

/-- Settles O39: an error leaves STATE, and the host presents the same ports, so the block function's arguments are the
same. -/
theorem errorRepeatsUnchanged : Obligations.ErrorRepeatsUnchanged := by
  intro s t u r rest hp hhost hstep hr herr hagain
  have hanswer := answer_of_error hp hstep hr herr
  have hfirst := step_eq_answer hp
  rw [hanswer] at hfirst
  cases hfirst.symm.trans hstep
  have hports : (hostAdvance (s.answered s.STATE r)).ports = s.ports := hostAdvance_ports_of_cons _ hhost
  have hsecond := step_eq_answer (s := hostAdvance (s.answered s.STATE r)) (by rwa [Sized.State.Presents, hports])
  rw [hports, hostAdvance_STATE, answered_STATE, hanswer] at hsecond
  cases hsecond.symm.trans hagain
  exact ⟨hports, hostAdvance_STATE _, by simp⟩

/-- Settles O51: one writes the reset value, the other its operand, which is the same word. -/
theorem resetEqualsDefaultSeedCommand : Obligations.ResetEqualsDefaultSeedCommand := by
  intro s s' hR hp hcmd hop
  have hd : decode s'.CMD = .legal .seed := (decode_eq_seed_iff _).mpr (congrArg BitVec.toNat hcmd)
  have hseed : step s' = .next (hostAdvance (s'.answered (seedOperand s'.OPA) (okResponse 0 0))) := by
    rw [step_of_legal hp hd, exec_seed, thenHost_next]
  refine ⟨_, _, step_of_RESET hR, hseed, ?_, hostAdvance_responses _, hostAdvance_responses _⟩
  rw [hostAdvance_STATE, hostAdvance_STATE, resetBlock_STATE, ofNat_defaultSeed, answered_STATE]
  exact hop.symm

end Sys2Proof.Machine

/-! PROOFS. The assembler (30_encoding.md section 4): the block reads back what it wrote (R81 to R85), what it rejects
(R86), its defaults and pseudo-instructions (R87), and the worked encodings (R88). -/

namespace Sys2Proof.Machine

open Sys2Proof Sys2Proof.Config

variable {opW : Nat}

/-! ### What fits -/

theorem fitsSigned_iff (w : Nat) (v : Int) : fitsSigned w v = true ↔ -2 ^ (w - 1) ≤ v ∧ v < 2 ^ (w - 1) := by
  simp [fitsSigned, pow2]

theorem fitsUnsigned_iff (w : Nat) (v : Int) : fitsUnsigned w v = true ↔ 0 ≤ v ∧ v < 2 ^ w := by
  simp [fitsUnsigned, pow2]

theorem fitsUnsigned_natCast {w n : Nat} (h : n < 2 ^ w) : fitsUnsigned w (n : Int) = true :=
  (fitsUnsigned_iff w n).mpr ⟨Int.natCast_nonneg n, mod_cast h⟩

theorem fitsDec_iff (p : Params) (x : Dec) :
    fitsDec p x = true ↔ fitsSigned p.decCoefW x.coef = true ∧ fitsSigned p.decExpW x.exp = true :=
  Bool.and_eq_true_iff

theorem whenFits_of_fits {fits : Bool} (h : fits = true) (c : Sized.Command opW) : whenFits fits c = .ok c := by
  rw [whenFits, if_pos h]

theorem whenFits_of_misfit {fits : Bool} (h : ¬ fits = true) (c : Sized.Command opW) :
    whenFits fits c = .error .doesNotFit := by
  rw [whenFits, if_neg h]

/-! ### What does not fit -/

theorem misfit_left {a b : Bool} (h : ¬ a = true) : ¬ (a && b) = true := fun hab => h (Bool.and_eq_true_iff.mp hab).1

theorem misfit_right {a b : Bool} (h : ¬ b = true) : ¬ (a && b) = true := fun hab => h (Bool.and_eq_true_iff.mp hab).2

theorem not_fitsUnsigned {w : Nat} {v : Int} (h : v < 0 ∨ 2 ^ w ≤ v) : ¬ fitsUnsigned w v = true := by
  rw [fitsUnsigned_iff]
  omega

theorem not_fitsSigned_and {w : Nat} {low high : Int}
    (h : low < -2 ^ (w - 1) ∨ 2 ^ (w - 1) ≤ low ∨ high < -2 ^ (w - 1) ∨ 2 ^ (w - 1) ≤ high) :
    ¬ (fitsSigned w low && fitsSigned w high) = true := by
  rw [Bool.and_eq_true, fitsSigned_iff, fitsSigned_iff]
  omega

theorem not_fitsDec_listed {x : Dec} (h : x.coef < -2 ^ 511 ∨ 2 ^ 511 ≤ x.coef ∨ x.exp < -128 ∨ 128 ≤ x.exp) :
    ¬ fitsDec Params.listed x = true := by
  rw [fitsDec_iff, fitsSigned_iff, fitsSigned_iff]
  rintro ⟨⟨hcoefLow, hcoefHigh⟩, hexpLow, hexpHigh⟩
  rcases h with h | h | h | h
  · exact h.not_ge hcoefLow
  · exact h.not_gt hcoefHigh
  · exact h.not_ge hexpLow
  · exact h.not_gt hexpHigh

/-! ### What the block reads from a bus the assembler wrote -/

theorem ofInt_toInt_of_fits {w : Nat} {v : Int} (hw : 1 ≤ w) (h : fitsSigned w v = true) :
    (BitVec.ofInt w v).toInt = v :=
  BitVec.toInt_ofInt_eq_self hw ((fitsSigned_iff w v).mp h).1 ((fitsSigned_iff w v).mp h).2

theorem busField_intBus {w : Nat} (hw : w ≤ opW) (v : Int) :
    busField 0 w (intBus w v : BitVec opW) = BitVec.ofInt w v := by
  rw [busField, intBus, BitVec.extractLsb'_setWidth_of_le (by omega), BitVec.extractLsb'_eq_self]

/-- An integer bound is read back (R83, R84). -/
theorem signedField_intBus {w : Nat} {v : Int} (hw : 1 ≤ w) (hle : w ≤ opW) (h : fitsSigned w v = true) :
    signedField 0 w (intBus w v : BitVec opW) = v := by
  rw [signedField, busField_intBus hle, ofInt_toInt_of_fits hw h]

/-- A decimal bound is read back (R85). -/
theorem rfracBound_decBus {p : Params} {x : Dec} (hp : p.Valid) (h : fitsDec p x = true) :
    rfracBound p (decBus p x : BitVec p.opW) = x := by
  obtain ⟨-, -, -, hcoefW, hexpW, hbus, -⟩ := hp
  obtain ⟨hcoef, hexp⟩ := (fitsDec_iff p x).mp h
  have hreadCoef : signedField 0 p.decCoefW (decBus p x : BitVec p.opW) = x.coef := by
    rw [signedField, busField, decBus, BitVec.extractLsb'_setWidth_of_le (by omega),
      BitVec.extractLsb'_append_eq_right, ofInt_toInt_of_fits hcoefW hcoef]
  have hreadExp : signedField p.decCoefW p.decExpW (decBus p x : BitVec p.opW) = x.exp := by
    rw [signedField, busField, decBus, BitVec.extractLsb'_setWidth_of_le hbus,
      BitVec.extractLsb'_append_eq_left, ofInt_toInt_of_fits hexpW hexp]
  rw [rfracBound, hreadCoef, hreadExp]

/-- The seed's bus is the seed modulo 2^64 (R81). -/
theorem intBus_natCast_toNat (hle : 64 ≤ opW) (n : Nat) : (intBus 64 (n : Int) : BitVec opW).toNat = n % 2 ^ 64 := by
  rw [intBus, BitVec.toNat_setWidth_of_le hle, BitVec.ofInt_natCast, BitVec.toNat_ofNat]

theorem seedOperand_intBus_natCast (hle : 64 ≤ opW) (n : Nat) :
    (seedOperand (intBus 64 (n : Int) : BitVec opW)).toNat = n % 2 ^ 64 := by
  rw [seedOperand, busField_intBus hle, BitVec.ofInt_natCast, BitVec.toNat_ofNat]

/-! ### The statements -/

/-- Settles O53: each line fits, its word decodes to its instruction, and its buses carry its operands. -/
theorem assembledOperandsReadBack : Obligations.AssembledOperandsReadBack := by
  intro p hp
  have ⟨hbig, hbigOp, _⟩ := hp
  have h64 : 64 ≤ p.opW := hbig.trans hbigOp
  refine ⟨fun sd => ?_, fun l hl => ?_, fun low high l hlow hlow' hhigh hhigh' hl => ?_,
    fun low high b l hlow hlow' hhigh hhigh' hb hl => ?_, fun lo hi b l hlo hhi hb hl => ?_⟩
  · refine ⟨_, whenFits_of_fits (decide_eq_true (Int.natCast_nonneg sd)) _, decode_encode (i := .seed) rfl, ?_, ?_⟩
    · exact seedOperand_intBus_natCast h64 sd
    · exact intBus_natCast_toNat h64 sd
  · exact ⟨_, whenFits_of_fits (fitsUnsigned_natCast hl) _, decode_encode (i := .raw l) ((layersFit_iff l).mpr hl)⟩
  · have hlowFits := (fitsSigned_iff 64 low).mpr ⟨hlow, hlow'⟩
    have hhighFits := (fitsSigned_iff 64 high).mpr ⟨hhigh, hhigh'⟩
    refine ⟨_, whenFits_of_fits ?_ _, decode_encode (i := .rint l) ((layersFit_iff l).mpr hl), ?_, ?_⟩
    · simp only [Bool.and_eq_true]
      exact ⟨⟨hlowFits, hhighFits⟩, fitsUnsigned_natCast hl⟩
    · exact signedField_intBus (by decide) h64 hlowFits
    · exact signedField_intBus (by decide) h64 hhighFits
  · have hlowFits := (fitsSigned_iff p.bigW low).mpr ⟨hlow, hlow'⟩
    have hhighFits := (fitsSigned_iff p.bigW high).mpr ⟨hhigh, hhigh'⟩
    refine ⟨_, whenFits_of_fits ?_ _, decode_encode (i := .rbig b l) ((countsFit_iff b l).mpr ⟨hb, hl⟩), ?_, ?_⟩
    · simp only [Bool.and_eq_true]
      exact ⟨⟨⟨hlowFits, hhighFits⟩, fitsUnsigned_natCast hb⟩, fitsUnsigned_natCast hl⟩
    · exact signedField_intBus (by omega) hbigOp hlowFits
    · exact signedField_intBus (by omega) hbigOp hhighFits
  · refine ⟨_, whenFits_of_fits ?_ _, decode_encode (i := .rfrac b l) ((countsFit_iff b l).mpr ⟨hb, hl⟩), ?_, ?_⟩
    · simp only [Bool.and_eq_true]
      exact ⟨⟨⟨hlo, hhi⟩, fitsUnsigned_natCast hb⟩, fitsUnsigned_natCast hl⟩
    · exact rfracBound_decBus hp hlo
    · exact rfracBound_decBus hp hhi

/-- Settles O54: one operand that does not fit is enough for the line not to fit. -/
theorem assemblerRejectsMisfits : Obligations.AssemblerRejectsMisfits := by
  refine ⟨fun sd h => ?_, fun l h => ?_, fun b h => ?_, fun low high l h => ?_, fun low high b l h => ?_,
    fun lo hi b l h => ?_⟩
  · exact whenFits_of_misfit (fun hfits => absurd (of_decide_eq_true hfits) (not_le.mpr h)) _
  · have hl : ¬ fitsUnsigned 8 l = true := not_fitsUnsigned h
    exact ⟨whenFits_of_misfit hl _, fun _ _ => whenFits_of_misfit (misfit_right hl) _,
      fun _ _ _ => whenFits_of_misfit (misfit_right hl) _, fun _ _ _ => whenFits_of_misfit (misfit_right hl) _⟩
  · have hb : ¬ fitsUnsigned 4 b = true := not_fitsUnsigned h
    exact ⟨fun _ _ _ => whenFits_of_misfit (misfit_left (misfit_right hb)) _,
      fun _ _ _ => whenFits_of_misfit (misfit_left (misfit_right hb)) _⟩
  · exact whenFits_of_misfit (misfit_left (not_fitsSigned_and h)) _
  · have hbounds : ¬ (fitsSigned 512 low && fitsSigned 512 high) = true := not_fitsSigned_and (w := 512) h
    exact whenFits_of_misfit (misfit_left (misfit_left hbounds)) _
  · have hlo := not_fitsDec_listed h
    exact ⟨whenFits_of_misfit (misfit_left (misfit_left (misfit_left hlo))) _,
      whenFits_of_misfit (misfit_left (misfit_left (misfit_right hlo))) _⟩

/-- Settles O55: NEW takes SEED's branch, and a default is the operand it stands for. -/
theorem pseudoInstructionsExpand : Obligations.PseudoInstructionsExpand :=
  ⟨fun _ => rfl, rfl, fun _ => ⟨rfl, rfl, fun _ _ => ⟨rfl, rfl, fun _ => rfl⟩, fun _ _ => ⟨rfl, fun _ => rfl⟩⟩⟩

/-- Settles O56, by the assembler on the eight lines. -/
theorem assemblerWorkedExamples : Obligations.AssemblerWorkedExamples := by
  unfold Obligations.AssemblerWorkedExamples
  decide +kernel

end Sys2Proof.Machine
